-- ==== Sys2Proof/Word.lean ====
section
/-! DEFINITION. The widths the spec fixes (rules R13, R76, R75): the display byte, the selector
word, the write-event digit, the sequencer code, and the index of a bit of a frame. -/

namespace Sys2Proof

/-- One byte: `TXB`, `SR`, `Q` and the display byte (rules R13, R71, R210). -/
abbrev Byte := BitVec 8

/-- The selector word, ten bits: EV, PEND and the code of SEQ (rule R76). -/
abbrev Selector := BitVec 10

/-- The write-event code, three bits: the line and the level (rule R75). -/
abbrev TraceCode := BitVec 3

/-- The code of a sequencer state, seven bits: `pp`, `iii`, `ss` (rule R76). -/
abbrev SeqCode := BitVec 7

/-- The index of a bit of a frame, 0 to 7 (rules R28, R152). -/
abbrev BitIndex := Fin 8

/-- The eight bit indexes of a frame in the order they are sent (rules R74, R151). -/
def allBits : List BitIndex := [0, 1, 2, 3, 4, 5, 6, 7]

end Sys2Proof
end

