-- ==== Sys2Proof/Config.lean ====
section
/-! DEFINITION. The build-time parameters of the block (rules R6 to R12), which no operation
writes, and the model's free values: constants with no body, of which nothing can be proved. -/

namespace Sys2Proof

/-- `REFRESH_POLICY`, which ticks send a frame (rules R8, R107, R108). -/
inductive RefreshPolicy where
  | minuteChange
  | everyTick
  deriving DecidableEq, Repr, Inhabited

/-- `PULSE_EDGE`, the direction of the counted transition (rule R9): left open, read by no rule. -/
inductive PulseEdge where
  | rising
  | falling
  deriving DecidableEq, Repr, Inhabited

/-- The physical pins of the four lines (rule R10): left open, read by no rule. -/
structure PinMap where
  pulseIn : Nat
  data    : Nat
  clock   : Nat
  latch   : Nat
  deriving DecidableEq, Repr, Inhabited

/-- One build of the block: every parameter of rules R6 to R10. `PEND_MAX` (rule R11) is 1 by
decision D8 and shows in the width of `PEND`; the brightness duty (rule R12) is no parameter. -/
structure Params where
  mainsHz       : Nat
  initHour      : Nat
  initMin       : Nat
  initSec       : Nat
  refreshPolicy : RefreshPolicy
  pulseEdge     : PulseEdge
  pins          : PinMap
  deriving DecidableEq, Repr

/-- The builds RESET accepts: `F` from 1 to 63 and an initial time on the wheel
(rules R6 and R7, decision D25). Any other build is refused at RESET. -/
abbrev Params.legal (p : Params) : Prop :=
  (1 ≤ p.mainsHz ∧ p.mainsHz ≤ 63) ∧ (1 ≤ p.initHour ∧ p.initHour ≤ 12) ∧
    p.initMin ≤ 59 ∧ p.initSec ≤ 59

/-- The builds that are this hardware: legal, with `F` 50 or 60 (rule R6). The other legal
values of `F` serve tests only. -/
abbrev Params.isHardware (p : Params) : Prop :=
  p.legal ∧ (p.mainsHz = 50 ∨ p.mainsHz = 60)

namespace Config

/-- The free values (`any` of rule R16): the n-th unspecified value of width `w`. It has no body,
so nothing about it can be proved; `State.free` supplies `n`. -/
opaque freeValue (w n : Nat) : BitVec w

/-- What the shift stages hold when power comes up: unspecified (rule R216, decision D15). -/
opaque powerUpSR : Byte

/-- What the output latches hold when power comes up: unspecified (rule R216, decision D15). -/
opaque powerUpQ : Byte

/-- `PULSE_EDGE` of the build `State.reset` is in: left open (rule R9, decision D10). -/
opaque pulseEdge : PulseEdge

/-- The pin assignment of the build `State.reset` is in: left open (rule R10, decision D11). -/
opaque pins : PinMap

/-- The build `State.reset` is in: 12:00:00 and `MINUTE_CHANGE` by decisions D3 and D1.
DESIGN CHOICE (log entry 2), unsafe: the spec leaves `F` open between 50 and 60 (decision D2)
and this one build takes 50; every statement is made for all builds, none for this one alone. -/
def build : Params where
  mainsHz := 50
  initHour := 12
  initMin := 0
  initSec := 0
  refreshPolicy := .minuteChange
  pulseEdge := pulseEdge
  pins := pins

end Config

end Sys2Proof
end

