-- ==== Sys2Proof/Machine/Flags.lean ====
section
/-! DEFINITION. The two values of the spec that look like flags and are stored nowhere: the
five-flag of the display byte and the refresh condition of a TICK (rule R32). The one stored flag
is PEND, a field of State. -/

namespace Sys2Proof.Machine

/-- FIVE, the five-flag: whether the units digit of the minutes is at least 5 (rule R132). -/
def fiveFlag (minutes : Nat) : Bool := decide (5 ≤ minutes % 10)

/-- `refresh_condition`: under `MINUTE_CHANGE` a TICK sends a frame exactly when it changed the
minutes, under `EVERY_TICK` always (rules R107, R108). -/
def refreshCondition (policy : RefreshPolicy) (minuteChanged : Bool) : Bool :=
  match policy with
  | .minuteChange => minuteChanged
  | .everyTick => true

end Sys2Proof.Machine
end

