-- ==== Sys2Proof/Machine/Operands.lean ====
section
/-! DEFINITION. The values the operations compute from their operands: the fields of the display
byte, the display byte itself with its domain, and the bit of a byte a frame slot carries. -/

namespace Sys2Proof.Machine

/-- TENS: the tens digit of the minutes, a whole-number quotient (rules R15, R131). -/
def tensDigit (minutes : Nat) : Nat := minutes / 10

/-- The minutes for which the spec states what the display functions return (rules R131, R132,
R138). -/
def minutesInDomain (minutes : Nat) : Bool := decide (minutes ≤ 59)

/-- The domain of ENCODE (rules R80, R130, R138). -/
def encodeDomain (hours minutes : Nat) : Bool :=
  decide (1 ≤ hours) && decide (hours ≤ 12) && minutesInDomain minutes

/-- The display byte `hhhhtttf`: the hours at bits 7:4, the tens digit at bits 3:1, the five-flag
at bit 0 (rules R71, R72, R130). -/
def encodeByte (hours minutes : Nat) : Byte :=
  (BitVec.ofNat 8 hours <<< 4) ||| (BitVec.ofNat 8 (tensDigit minutes) <<< 1) |||
    (BitVec.ofBool (fiveFlag minutes)).setWidth 8

/-- The hours field `H` of a display byte, bits 7:4 (rule R71). -/
def hoursField (b : Byte) : BitVec 4 := b.extractLsb' 4 4

/-- The tens field `T` of a display byte, bits 3:1 (rule R71). -/
def tensField (b : Byte) : BitVec 3 := b.extractLsb' 1 3

/-- The five-flag `V` of a display byte, bit 0 (rule R71). -/
def fiveField (b : Byte) : Bool := b.getLsbD 0

/-- `b[i]`, the bit that slot `i` of a frame carries (rules R14, R74). -/
def bitOf (b : Byte) (i : BitIndex) : Bool := b.getLsbD i.val

end Sys2Proof.Machine
end

