-- ==== Sys2Proof/Machine/State.lean ====
section
/-! DEFINITION. The state of the machine as plain data: the block (rule R20), the shift register
at the other end of the wires (rules R37, R210), the two traces a model records (rule R17), the
environment's schedule (rule R18) and the model's own bookkeeping. Also the reasons a step stops
and the state right after reset (rules R39, R230). -/

namespace Sys2Proof.Machine

/-- The three line writes of a bit slot: clock low, data, clock high (rule R28). -/
inductive SubStep where
  | a
  | b
  | c
  deriving DecidableEq, Repr

/-- The two halves of the latch pulse (rule R28). -/
inductive LatchStep where
  | hi
  | lo
  deriving DecidableEq, Repr

/-- `SEQ`, the sequencer state: 27 values, in place of a program counter (rule R28). -/
inductive Seq where
  | wait
  | sh (i : BitIndex) (p : SubStep)
  | lt (p : LatchStep)
  deriving DecidableEq, Repr

/-- The three output lines (rules R16, R30). -/
inductive Line where
  | data
  | clock
  | latch
  deriving DecidableEq, Repr

/-- One write event: a line and the level written to it, low is `false` (rule R17). -/
structure WireEvent where
  line  : Line
  level : Bool
  deriving DecidableEq, Repr

/-- What the environment does at one point of a run: lets the block step, delivers PULSE,
delivers RESET, or delivers both at the same point (rules R18, R77, R195). -/
inductive EnvPoint where
  | quiet
  | pulse
  | reset
  | resetAndPulse
  deriving DecidableEq, Repr

/-- The two entries of the transition trace the shift register reacts to (rules R211, R212). -/
inductive DeviceEdge where
  | clockRise
  | latchRise
  deriving DecidableEq, Repr

/-- The hardware raises no exception, so no step ends in a fault (rule R190). -/
inductive Fault where
  deriving DecidableEq, Repr

/-- Why the model refuses. All are safe: no claim speaks of what comes after. -/
inductive Refusal where
  /-- An arm with no meaning yet; no arm of this model raises it. Safe. -/
  | notModelled (mnemonic : String)
  /-- `refuse(pulse_overrun)`: PULSE while PEND = 1, raised by PULSE (rules R100, R196). Safe. -/
  | pulseOverrun
  /-- `refuse(encode_domain)`: operands outside hours 1 to 12, minutes 0 to 59, raised by ENCODE,
  REFRESH and a TICK that starts a frame (rules R16, R80, R138). Safe. -/
  | encodeDomain
  /-- `refuse(bad_config)`: an illegal build, raised by RESET (rules R6, R7, decision D25). Safe. -/
  | badConfig
  /-- An operation of the sequencer performed in a state that does not select it, raised by TICK,
  WAIT, the line-drive steps and the sequences (rules R77, R101, R172). No step raises it. Safe. -/
  | notSelected
  /-- A selector word that matches no row, raised by the step (rules R76, R81). No state of this
  machine has such a word. Safe. -/
  | badSelector
  deriving DecidableEq, Repr

/-- The state. The fields down to `q` are the hardware's; `wt` and `tt` are the observation of
rule R17; `cfg`, `events`, `edge`, `result` and `free` are the model's own (log entries 1, 4, 5,
6, 7). -/
structure State where
  /-- `TICK`, the tick counter, 6 bits (rule R21). -/
  tick   : BitVec 6
  /-- `SEC`, seconds, 6 bits (rule R22). -/
  sec    : BitVec 6
  /-- `MIN`, minutes, 6 bits (rule R23). -/
  min    : BitVec 6
  /-- `HOUR`, hours, 4 bits (rule R24). -/
  hour   : BitVec 4
  /-- `SEQ`, the sequencer state (rule R28). -/
  seq    : Seq
  /-- `TXB`, the transmit byte (rule R29). -/
  txb    : Byte
  /-- `DATA`, the level of the data line (rule R30). -/
  data   : Bool
  /-- `CLOCK`, the level of the clock line (rule R30). -/
  clock  : Bool
  /-- `LATCH`, the level of the latch line (rule R30). -/
  latch  : Bool
  /-- `PEND`, the pending-pulse latch (rule R33). -/
  pend   : Bool
  /-- `SR`, the shift stages of the external register (rule R210). -/
  sr     : Byte
  /-- `Q`, the output latches of the external register (rule R210). -/
  q      : Byte
  /-- `WT`, every line write since RESET, oldest first (rule R17). -/
  wt     : List WireEvent
  /-- `TT`, the line writes that changed a level, oldest first (rule R17). -/
  tt     : List WireEvent
  /-- The build the block is (rules R6 to R10), written by no operation. -/
  cfg    : Params
  /-- What the environment does at the coming points of the run, nearest first; once it is
  empty the environment does nothing more and the block steps (rule R18). -/
  events : List EnvPoint
  /-- An entry of the transition trace put before the shift register as the next thing to happen
  (the selection of SR_SHIFT and SR_LATCH in rule R78). No block step leaves one. -/
  edge   : Option DeviceEdge
  /-- The value the last ENCODE, TENS or FIVE performed on its own returned. -/
  result : Byte
  /-- How many free values the run has used. -/
  free   : Nat
  deriving DecidableEq, Repr

/-- The state right after RESET of a build whose power has just come up (rules R39, R216, R230).
`TXB`, `SR` and `Q` are unspecified: free values. Nothing is scheduled. -/
def State.resetWith (p : Params) : State where
  tick := 0
  sec := BitVec.ofNat 6 p.initSec
  min := BitVec.ofNat 6 p.initMin
  hour := BitVec.ofNat 4 p.initHour
  seq := .wait
  txb := Config.freeValue 8 0
  data := false
  clock := false
  latch := false
  pend := false
  sr := Config.powerUpSR
  q := Config.powerUpQ
  wt := []
  tt := []
  cfg := p
  events := []
  edge := none
  result := 0
  free := 1

/-- The state right after reset (rule R39): 12:00:00, all lines low, waiting. -/
def State.reset : State := State.resetWith Config.build

end Sys2Proof.Machine
end

