-- ==== Sys2Proof/Machine/Ops.lean ====
section
/-! DEFINITION. The shared operations over the state: free values, register writes that may not
fit, the reactions of the shift register, `Drive`, entry to the tick handler and return from it,
and the start of a frame. -/

namespace Sys2Proof.Machine

/-- What a meaning answers. -/
abbrev Result := Host.Outcome State Fault Refusal

/-- Perform one operation after another; a refusal of the first is the refusal of the whole. -/
def andThen (r : Result) (f : State → Result) : Result :=
  match r with
  | .next s => f s
  | .fault e => .fault e
  | .refused e => .refused e

/-- The value written when a whole number `v` is stored in a register of `w` bits: `v` itself
when it fits. The spec gives no result for a value that does not fit and forbids assuming that
it wraps (rule R134, note N6): it is the free value number `n` (log entry 8). -/
def fitted (w v n : Nat) : BitVec w :=
  if v < 2 ^ w then BitVec.ofNat w v else Config.freeValue w n

/-- How many free values storing `v` in a register of `w` bits uses. -/
def overflowUse (w v : Nat) : Nat := if v < 2 ^ w then 0 else 1

/-- `TICK <- v` (rule R21). -/
def State.storeTick (v : Nat) (s : State) : State :=
  { s with tick := fitted 6 v s.free, free := s.free + overflowUse 6 v }

/-- `SEC <- v` (rule R22). -/
def State.storeSec (v : Nat) (s : State) : State :=
  { s with sec := fitted 6 v s.free, free := s.free + overflowUse 6 v }

/-- `MIN <- v` (rule R23). -/
def State.storeMin (v : Nat) (s : State) : State :=
  { s with min := fitted 6 v s.free, free := s.free + overflowUse 6 v }

/-- `HOUR <- v` (rule R24). -/
def State.storeHour (v : Nat) (s : State) : State :=
  { s with hour := fitted 4 v s.free, free := s.free + overflowUse 4 v }

/-- The indexed names `x[0]` to `x[3]` of the four time registers (rule R16, decision D21). -/
def State.x (s : State) (i : Fin 4) : Nat :=
  match i with
  | 0 => s.tick.toNat
  | 1 => s.sec.toNat
  | 2 => s.min.toNat
  | 3 => s.hour.toNat

/-- `x[i] <- v` (rule R16). -/
def State.setX (i : Fin 4) (v : Nat) (s : State) : State :=
  match i with
  | 0 => s.storeTick v
  | 1 => s.storeSec v
  | 2 => s.storeMin v
  | 3 => s.storeHour v

/-- The level a line register holds (rule R30). -/
def State.level (s : State) : Line → Bool
  | .data => s.data
  | .clock => s.clock
  | .latch => s.latch

/-- `L <- v` for a line register (rule R30). -/
def State.setLevel (L : Line) (v : Bool) (s : State) : State :=
  match L with
  | .data => { s with data := v }
  | .clock => { s with clock := v }
  | .latch => { s with latch := v }

/-- Append a write event to `WT` (rule R17). -/
def State.recordWrite (e : WireEvent) (s : State) : State := { s with wt := s.wt ++ [e] }

/-- Append a level change to `TT` (rule R17). -/
def State.recordChange (e : WireEvent) (s : State) : State := { s with tt := s.tt ++ [e] }

/-- SR_SHIFT on the shift stages: the level of DATA enters at position 7, every older bit moves
one position down, the bit at position 0 is dropped (rule R211). -/
def State.shiftIn (s : State) : State :=
  { s with sr := (BitVec.ofBool s.data ++ s.sr.extractLsb' 1 7 : BitVec (1 + 7)) }

/-- SR_LATCH on the output latches: all eight positions take the shift stages (rule R212). -/
def State.copyOut (s : State) : State := { s with q := s.sr }

/-- The edges the shift register reacts to: CLOCK rising and LATCH rising (rules R211, R212). -/
def edgeOf : WireEvent → Option DeviceEdge
  | ⟨.clock, true⟩ => some .clockRise
  | ⟨.latch, true⟩ => some .latchRise
  | ⟨.clock, false⟩ => none
  | ⟨.latch, false⟩ => none
  | ⟨.data, _⟩ => none

/-- What the shift register does on an edge (rules R211, R212). -/
def State.reactTo (e : DeviceEdge) (s : State) : State :=
  match e with
  | .clockRise => s.shiftIn
  | .latchRise => s.copyOut

/-- What the shift register does on an entry of the transition trace: nothing on a falling edge
and nothing on a change of DATA (rules R211, R212). -/
def State.observe (e : WireEvent) (s : State) : State :=
  match edgeOf e with
  | some d => s.reactTo d
  | none => s

/-- `Drive(L, v)`: append the write to `WT`, then write the line. A write of the level the line
has changes nothing on the wire; any other is an entry of `TT`, and the shift register reacts to
it in the same step (rules R17, R56, R57, R210). -/
def State.drive (L : Line) (v : Bool) (s : State) : State :=
  if s.level L = v then s.recordWrite ⟨L, v⟩
  else (((s.recordWrite ⟨L, v⟩).setLevel L v).recordChange ⟨L, v⟩).observe ⟨L, v⟩

/-- Whether the tick handler is running, a predicate and not a register (rule R34). -/
def State.inHandler (s : State) : Bool := decide (s.seq ≠ .wait)

/-- Entry to the tick handler: the request is acknowledged, PEND is cleared. Nothing is saved and
no mode changes (rules R101, R194, R197). -/
def State.takeInterrupt (s : State) : State := { s with pend := false }

/-- Return from the tick handler: the sequencer waits again; nothing is restored (rules R158,
R199). -/
def State.returnFromInterrupt (s : State) : State := { s with seq := .wait }

/-- The sequencer goes on to `q` (rules R16, R172). -/
def State.goTo (q : Seq) (s : State) : State := { s with seq := q }

/-- The start of a frame for byte `b`: the transmit byte is captured and the sequencer stands at
the first step of bit 0 (rules R29, R171). -/
def State.startFrame (b : Byte) (s : State) : State := { s with txb := b, seq := .sh 0 .a }

/-- Start REFRESH(HOUR, MIN) with the registers as they stand (rules R106, R171). Outside the
domain of ENCODE the spec gives no byte: `refuse(encode_domain)` (rule R138). -/
def startRefresh (s : State) : Result :=
  if encodeDomain s.hour.toNat s.min.toNat then
    .next (s.startFrame (encodeByte s.hour.toNat s.min.toNat))
  else .refused .encodeDomain

/-- Record the value a display function returned; it writes no register (rule R139). -/
def State.returnValue (b : Byte) (s : State) : State := { s with result := b }

/-- Record a returned value of `w` bits that the spec does not state: the next free value.
DESIGN CHOICE, safe (log entry 10). -/
def State.returnFree (w : Nat) (s : State) : State :=
  { s with result := (Config.freeValue w s.free).setWidth 8, free := s.free + 1 }

/-- The LED on output `k` is lit exactly when `Q[k]` is 1 (rule R213, decision D14). -/
def State.led (s : State) (k : BitIndex) : Bool := s.q.getLsbD k.val

end Sys2Proof.Machine
end

