-- ==== Sys2Proof/Machine/Device.lean ====
section
/-! DEFINITION. The reactions of the external shift register performed on their own, on an edge
put before it (60_exceptions.md section 5). Inside a run `Drive` performs them. -/

namespace Sys2Proof.Machine

/-- SR_SHIFT, on a rising edge of CLOCK (rule R211). -/
def execSrShift (s : State) : Result := .next { s.shiftIn with edge := none }

/-- SR_LATCH, on a rising edge of LATCH (rule R212). -/
def execSrLatch (s : State) : Result := .next { s.copyOut with edge := none }

end Sys2Proof.Machine
end

