-- ==== Sys2Proof/Machine/Encoder.lean ====
section
/-! DEFINITION. The display encoder performed on its own: ENCODE, TENS, FIVE. They are functions:
they write no register, and the value they return is recorded in `result` (rule R139). -/

namespace Sys2Proof.Machine

/-- ENCODE (rule R130); outside its domain `refuse(encode_domain)` (rule R138). -/
def execEncode (hours minutes : Nat) (s : State) : Result :=
  if encodeDomain hours minutes then .next (s.returnValue (encodeByte hours minutes))
  else .refused .encodeDomain

/-- TENS (rule R131): the tens digit for minutes 0 to 59. For other minutes the spec states no
result, which is then a free value of its three bits (log entry 10). -/
def execTens (minutes : Nat) (s : State) : Result :=
  .next (if minutesInDomain minutes then s.returnValue (BitVec.ofNat 8 (tensDigit minutes))
    else s.returnFree 3)

/-- FIVE (rule R132): the five-flag for minutes 0 to 59. For other minutes the spec states no
result, which is then a free value of its one bit (log entry 10). -/
def execFive (minutes : Nat) (s : State) : Result :=
  .next (if minutesInDomain minutes then
      s.returnValue ((BitVec.ofBool (fiveFlag minutes)).setWidth 8)
    else s.returnFree 1)

end Sys2Proof.Machine
end

