-- ==== Sys2Proof/Machine/PowerUp.lean ====
section
/-! DEFINITION. RESET (70_reset_and_hazards.md section 1). -/

namespace Sys2Proof.Machine

/-- The register writes of RESET: the initial time, all lines low without a `Drive`, the traces
empty again, TXB unspecified. The shift register and the build are not touched (rules R216, R230). -/
def State.initialise (s : State) : State :=
  { s with
    hour := BitVec.ofNat 4 s.cfg.initHour
    min := BitVec.ofNat 6 s.cfg.initMin
    sec := BitVec.ofNat 6 s.cfg.initSec
    tick := 0
    seq := .wait
    pend := false
    data := false
    clock := false
    latch := false
    txb := Config.freeValue 8 s.free
    free := s.free + 1
    wt := []
    tt := [] }

/-- RESET (rule R230), in any state; an illegal build is refused (rules R6, R7, decision D25). -/
def execReset (s : State) : Result :=
  if s.cfg.legal then .next s.initialise else .refused .badConfig

end Sys2Proof.Machine
end

