-- ==== Sys2Proof/Machine/ShiftOut.lean ====
section
/-! DEFINITION. The bit-serial driver: the five line-drive steps and the sequences made of them
(42_shift_out.md). A step is performed in the sequencer state that selects it (rule R77 case 5). -/

namespace Sys2Proof.Machine

/-- CLK_LOW, at `SH(i, a)` (rule R153). -/
def execClkLow (i : BitIndex) (s : State) : Result :=
  if s.seq = .sh i .a then .next ((s.drive .clock false).goTo (.sh i .b))
  else .refused .notSelected

/-- DATA_SET, at `SH(i, b)` (rule R154). -/
def execDataSet (i : BitIndex) (s : State) : Result :=
  if s.seq = .sh i .b then .next ((s.drive .data (bitOf s.txb i)).goTo (.sh i .c))
  else .refused .notSelected

/-- Where the sequencer goes after the rising clock edge of bit `i`: to the next bit, and after
bit 7 to the latch pulse; the index does not wrap (rule R155). -/
def afterClkHigh (i : BitIndex) : Seq :=
  if h : i.val + 1 < 8 then .sh ⟨i.val + 1, h⟩ .a else .lt .hi

/-- CLK_HIGH, at `SH(i, c)` (rule R155). -/
def execClkHigh (i : BitIndex) (s : State) : Result :=
  if s.seq = .sh i .c then .next ((s.drive .clock true).goTo (afterClkHigh i))
  else .refused .notSelected

/-- LATCH_HIGH, at `LT(hi)` (rule R157). -/
def execLatchHigh (s : State) : Result :=
  if s.seq = .lt .hi then .next ((s.drive .latch true).goTo (.lt .lo))
  else .refused .notSelected

/-- LATCH_LOW, at `LT(lo)`: the frame is complete and the handler returns (rules R158, R199). -/
def execLatchLow (s : State) : Result :=
  if s.seq = .lt .lo then .next (s.drive .latch false).returnFromInterrupt
  else .refused .notSelected

/-- SHIFT_BIT(i) is CLK_LOW; DATA_SET; CLK_HIGH at bit index `i` (rules R84, R152). -/
def execShiftBit (i : BitIndex) (s : State) : Result :=
  andThen (andThen (execClkLow i s) (execDataSet i)) (execClkHigh i)

/-- LATCH_PULSE is LATCH_HIGH; LATCH_LOW (rules R84, R156). -/
def execLatchPulse (s : State) : Result := andThen (execLatchHigh s) execLatchLow

/-- The bit slots of a frame for the given indexes, one after the other (rules R84, R151). -/
def shiftBits (is : List BitIndex) (s : State) : Result :=
  match is with
  | [] => .next s
  | i :: rest => andThen (execShiftBit i s) (shiftBits rest)

/-- Whether a whole frame for byte `b` may run from here: no frame is being sent, or this very
frame stands at its first step, as a TICK leaves it (rules R171, R200). -/
def State.frameMayStart (b : Byte) (s : State) : Bool :=
  decide (s.seq = .wait) || (decide (s.seq = .sh 0 .a) && decide (s.txb = b))

/-- SHIFT_OUT(b): the whole frame for byte `b`, bits 0 to 7 and then the latch pulse, with
TXB = b throughout; 26 line writes (rules R84, R151). -/
def execShiftOut (b : Byte) (s : State) : Result :=
  if s.frameMayStart b then andThen (shiftBits allBits (s.startFrame b)) execLatchPulse
  else .refused .notSelected

/-- REFRESH(hours, minutes) is SHIFT_OUT(ENCODE(hours, minutes)) (rules R84, R150). -/
def execRefresh (hours minutes : Nat) (s : State) : Result :=
  if encodeDomain hours minutes then execShiftOut (encodeByte hours minutes) s
  else .refused .encodeDomain

end Sys2Proof.Machine
end

