-- ==== Sys2Proof/Machine/Timekeeper.lean ====
section
/-! DEFINITION. The Timekeeper: PULSE, TICK and its four stages, WAIT (40_timekeeper.md). -/

namespace Sys2Proof.Machine

/-- HOUR_INC, the 12-hour wheel: 12 is followed by 1 (rule R105). -/
def hourStage (s : State) : State :=
  if s.hour.toNat + 1 = 13 then { s with hour := 1 } else s.storeHour (s.hour.toNat + 1)

/-- MIN_INC (rule R104). Every MIN_INC makes `minute_changed` true, so the stage returns no
flag of its own. -/
def minStage (s : State) : State :=
  if s.min.toNat + 1 = 60 then hourStage { s with min := 0 } else s.storeMin (s.min.toNat + 1)

/-- SEC_INC (rule R103), with `minute_changed`: true exactly when it performed MIN_INC. -/
def secStage (s : State) : State × Bool :=
  if s.sec.toNat + 1 = 60 then (minStage { s with sec := 0 }, true)
  else (s.storeSec (s.sec.toNat + 1), false)

/-- TICK_INC, the pulse accumulator modulo `F` (rule R102), with `minute_changed` (rule R106). -/
def tickStage (s : State) : State × Bool :=
  if s.tick.toNat + 1 = s.cfg.mainsHz then secStage { s with tick := 0 }
  else (s.storeTick (s.tick.toNat + 1), false)

/-- The end of a TICK: start the refresh when one is due, otherwise the handler is over at once
and the sequencer still waits (rules R107, R171, R199). -/
def finishTick (s : State) (minuteChanged : Bool) : Result :=
  if refreshCondition s.cfg.refreshPolicy minuteChanged then startRefresh s else .next s

/-- PULSE (rule R100): latch the request; a second one cannot be latched (rule R196). -/
def execPulse (s : State) : Result :=
  if s.pend then .refused .pulseOverrun else .next { s with pend := true }

/-- TICK (rules R101, R171): enabled when SEQ = WAIT and PEND = 1. It enters the handler, runs the
cascade and starts the refresh with the registers as then written, all in one step. -/
def execTick (s : State) : Result :=
  if s.seq = .wait ∧ s.pend = true then
    finishTick (tickStage s.takeInterrupt).1 (tickStage s.takeInterrupt).2
  else .refused .notSelected

/-- TICK_INC performed on its own: its register transfers, stages within it included (rule R102).
`minute_changed` is local to a TICK and does not survive (rule R32). -/
def execTickInc (s : State) : Result := .next (tickStage s).1

/-- SEC_INC performed on its own (rule R103). -/
def execSecInc (s : State) : Result := .next (secStage s).1

/-- MIN_INC performed on its own (rule R104). -/
def execMinInc (s : State) : Result := .next (minStage s)

/-- HOUR_INC performed on its own (rule R105). -/
def execHourInc (s : State) : Result := .next (hourStage s)

/-- WAIT (rule R109): selected when SEQ = WAIT and PEND = 0; it changes no state. -/
def execWait (s : State) : Result :=
  if s.seq = .wait ∧ s.pend = false then .next s else .refused .notSelected

end Sys2Proof.Machine
end

