-- ==== Sys2Proof/Syntax.lean ====
section
/-! DEFINITION. The operations of the block and of its shift register: one constructor for each
row of spec/opcode_table.json, in the table's order (rules R2, R78). -/

namespace Sys2Proof

/-- An operation (rule R78). The operands of the functions and of REFRESH are unsigned whole
numbers (rule R15): `hours`, `minutes`; SHIFT_OUT takes a byte; the steps of a frame carry the
bit index that SEQ holds for them. -/
inductive Instr where
  | reset
  | pulse
  | tick
  | tickInc
  | secInc
  | minInc
  | hourInc
  | wait
  | encode (hours minutes : Nat)
  | tens (minutes : Nat)
  | five (minutes : Nat)
  | refresh (hours minutes : Nat)
  | shiftOut (b : Byte)
  | shiftBit (i : BitIndex)
  | clkLow (i : BitIndex)
  | dataSet (i : BitIndex)
  | clkHigh (i : BitIndex)
  | latchPulse
  | latchHigh
  | latchLow
  | srShift
  | srLatch
  deriving DecidableEq, Repr

/-- The kinds of row in the operation list of rule R78. -/
inductive OpKind where
  | inputEvent
  | step
  | partOfTick
  | noStep
  | function
  | sequence
  | deviceReaction
  deriving DecidableEq, Repr

/-- The kind of each operation, the column `kind` of rule R78. -/
def Instr.kind : Instr → OpKind
  | .reset => .inputEvent
  | .pulse => .inputEvent
  | .tick => .step
  | .tickInc => .partOfTick
  | .secInc => .partOfTick
  | .minInc => .partOfTick
  | .hourInc => .partOfTick
  | .wait => .noStep
  | .encode _ _ => .function
  | .tens _ => .function
  | .five _ => .function
  | .refresh _ _ => .sequence
  | .shiftOut _ => .sequence
  | .shiftBit _ => .sequence
  | .clkLow _ => .step
  | .dataSet _ => .step
  | .clkHigh _ => .step
  | .latchPulse => .sequence
  | .latchHigh => .step
  | .latchLow => .step
  | .srShift => .deviceReaction
  | .srLatch => .deviceReaction

/-- The operations something selects on its own: an input event, the sequencer or an entry of the
transition trace (rules R77, R78). Parts of TICK, functions and sequences are not. -/
def Instr.selectable (i : Instr) : Bool :=
  match i.kind with
  | .inputEvent => true
  | .step => true
  | .noStep => true
  | .deviceReaction => true
  | .partOfTick => false
  | .function => false
  | .sequence => false

end Sys2Proof
end

