-- ==== Sys2Proof/Machine/Dispatch.lean ====
section
/-! DEFINITION. One arm for each operation, each a call of its own meaning. -/

namespace Sys2Proof.Machine

def exec (i : Instr) (s : State) : Host.Outcome State Fault Refusal :=
  match i with
  | .reset => Sys2Proof.Machine.execReset s
  | .pulse => Sys2Proof.Machine.execPulse s
  | .tick => Sys2Proof.Machine.execTick s
  | .tickInc => Sys2Proof.Machine.execTickInc s
  | .secInc => Sys2Proof.Machine.execSecInc s
  | .minInc => Sys2Proof.Machine.execMinInc s
  | .hourInc => Sys2Proof.Machine.execHourInc s
  | .wait => Sys2Proof.Machine.execWait s
  | .encode hours minutes => Sys2Proof.Machine.execEncode hours minutes s
  | .tens minutes => Sys2Proof.Machine.execTens minutes s
  | .five minutes => Sys2Proof.Machine.execFive minutes s
  | .refresh hours minutes => Sys2Proof.Machine.execRefresh hours minutes s
  | .shiftOut b => Sys2Proof.Machine.execShiftOut b s
  | .shiftBit k => Sys2Proof.Machine.execShiftBit k s
  | .clkLow k => Sys2Proof.Machine.execClkLow k s
  | .dataSet k => Sys2Proof.Machine.execDataSet k s
  | .clkHigh k => Sys2Proof.Machine.execClkHigh k s
  | .latchPulse => Sys2Proof.Machine.execLatchPulse s
  | .latchHigh => Sys2Proof.Machine.execLatchHigh s
  | .latchLow => Sys2Proof.Machine.execLatchLow s
  | .srShift => Sys2Proof.Machine.execSrShift s
  | .srLatch => Sys2Proof.Machine.execSrLatch s

end Sys2Proof.Machine
end

