-- ==== Sys2Proof/WellFormed.lean ====
section
/-! DEFINITION. When an operation's operands are in the ranges the spec gives them. -/

namespace Sys2Proof

/-- Well-formed operands: ENCODE and REFRESH take hours 1 to 12 and minutes 0 to 59, TENS and
FIVE take minutes 0 to 59 (rules R130, R131, R132, R150). A byte and a bit index are in range
by their types; the other operations have no operand. -/
def Instr.wf : Instr → Bool
  | .encode h m => decide (1 ≤ h) && decide (h ≤ 12) && decide (m ≤ 59)
  | .refresh h m => decide (1 ≤ h) && decide (h ≤ 12) && decide (m ≤ 59)
  | .tens m => decide (m ≤ 59)
  | .five m => decide (m ≤ 59)
  | .reset => true
  | .pulse => true
  | .tick => true
  | .tickInc => true
  | .secInc => true
  | .minInc => true
  | .hourInc => true
  | .wait => true
  | .shiftOut _ => true
  | .shiftBit _ => true
  | .clkLow _ => true
  | .dataSet _ => true
  | .clkHigh _ => true
  | .latchPulse => true
  | .latchHigh => true
  | .latchLow => true
  | .srShift => true
  | .srLatch => true

end Sys2Proof
end

