-- ==== Sys2Proof/Decode.lean ====
section
/-! DEFINITION. The decoder of the words that select an operation, total and rejecting by name,
and after it the encoder (rules R75, R76, R77, R78 and spec/opcode_table.json). The hardware
stores no words: a selector word is the state that selects, a write-event code is the entry of
the transition trace the shift register reacts to. -/

namespace Sys2Proof

/-- A word of the opcode table: a selector word (rule R76) or a write-event code (rule R75). -/
inductive CodeWord where
  | selector (w : Selector)
  | trace (c : TraceCode)
  deriving DecidableEq, Repr

/-- Why a word selects nothing (rules R76, R81). -/
inductive DecodeError where
  /-- `EV` = 11. -/
  | unusedEvent
  /-- `pp` = 11. -/
  | unusedPhase
  /-- A non-zero `iii` outside `SH`. -/
  | unusedIndex
  /-- `ss` = 11 in `SH`, `ss` above 01 in `LT`, or a non-zero `ss` in `WAIT`. -/
  | unusedSubStep
  /-- A write event the shift register does not react to (rules R211, R212). -/
  | noReaction
  /-- More bits than the format of the row has. -/
  | tooWide
  deriving DecidableEq, Repr

/-- `EV`, bits 9:8 (rule R76). -/
def fieldEV (w : Selector) : BitVec 2 := w.extractLsb' 8 2

/-- `PEND`, bit 7 (rule R76). -/
def fieldPend (w : Selector) : Bool := w.getLsbD 7

/-- `pp`, bits 6:5 (rule R76). -/
def fieldPP (w : Selector) : BitVec 2 := w.extractLsb' 5 2

/-- `iii`, bits 4:2 (rule R76). -/
def fieldIII (w : Selector) : BitVec 3 := w.extractLsb' 2 3

/-- `ss`, bits 1:0 (rule R76). -/
def fieldSS (w : Selector) : BitVec 2 := w.extractLsb' 0 2

/-- The bit index an `iii` field names. -/
def indexOf (iii : BitVec 3) : BitIndex := Fin.ofNat 8 iii.toNat

/-- The `iii` field of a bit index. -/
def iiiOf (i : BitIndex) : BitVec 3 := BitVec.ofNat 3 i.val

/-- The steps of a frame's eight bit slots, `pp` = 01 (rules R76, R77 case 5). -/
def decodeShift (iii : BitVec 3) (ss : BitVec 2) : Except DecodeError Instr :=
  if ss = 0 then .ok (.clkLow (indexOf iii))
  else if ss = 1 then .ok (.dataSet (indexOf iii))
  else if ss = 2 then .ok (.clkHigh (indexOf iii))
  else .error .unusedSubStep

/-- The two steps of the latch pulse, `pp` = 10 (rules R76, R77 case 5). -/
def decodeLatch (iii : BitVec 3) (ss : BitVec 2) : Except DecodeError Instr :=
  if iii ≠ 0 then .error .unusedIndex
  else if ss = 0 then .ok .latchHigh
  else if ss = 1 then .ok .latchLow
  else .error .unusedSubStep

/-- No frame is being sent, `pp` = 00 (rules R76, R77 cases 3 and 4). -/
def decodeWait (pend : Bool) (iii : BitVec 3) (ss : BitVec 2) : Except DecodeError Instr :=
  if iii ≠ 0 then .error .unusedIndex
  else if ss ≠ 0 then .error .unusedSubStep
  else if pend then .ok .tick
  else .ok .wait

/-- The operation the sequencer selects when no input event comes (rule R77 cases 3 to 5). -/
def decodeQuiet (w : Selector) : Except DecodeError Instr :=
  if fieldPP w = 0 then decodeWait (fieldPend w) (fieldIII w) (fieldSS w)
  else if fieldPP w = 1 then decodeShift (fieldIII w) (fieldSS w)
  else if fieldPP w = 2 then decodeLatch (fieldIII w) (fieldSS w)
  else .error .unusedPhase

/-- The operation a selector word selects, tested in the order of rule R77: RESET and PULSE
whatever the other fields are, then the sequencer's own. -/
def decodeSelector (w : Selector) : Except DecodeError Instr :=
  if fieldEV w = 2 then .ok .reset
  else if fieldEV w = 1 then .ok .pulse
  else if fieldEV w = 0 then decodeQuiet w
  else .error .unusedEvent

/-- The reaction of the shift register to an entry of the transition trace: code 3 is a rising
edge of CLOCK, code 5 a rising edge of LATCH (rules R78, R211, R212). -/
def decodeTrace (c : TraceCode) : Except DecodeError Instr :=
  if c = 3 then .ok .srShift
  else if c = 5 then .ok .srLatch
  else .error .noReaction

/-- The decoder, total on every word. -/
def decode : CodeWord → Except DecodeError Instr
  | .selector w => decodeSelector w
  | .trace c => decodeTrace c

/-- The encoder, from the patterns of rule R78 and the codes of rule R76, with 0 in every field
that does not matter for the selection. Parts of TICK, functions and sequences have no word of
their own: nothing selects them (rules R77, R84). -/
def encode : Instr → Option CodeWord
  | .reset => some (.selector 0x200)
  | .pulse => some (.selector 0x100)
  | .tick => some (.selector 0x080)
  | .wait => some (.selector 0x000)
  | .clkLow i => some (.selector (0x020 + BitVec.ofNat 10 (4 * i.val)))
  | .dataSet i => some (.selector (0x021 + BitVec.ofNat 10 (4 * i.val)))
  | .clkHigh i => some (.selector (0x022 + BitVec.ofNat 10 (4 * i.val)))
  | .latchHigh => some (.selector 0x040)
  | .latchLow => some (.selector 0x041)
  | .srShift => some (.trace 3)
  | .srLatch => some (.trace 5)
  | .tickInc => none
  | .secInc => none
  | .minInc => none
  | .hourInc => none
  | .encode _ _ => none
  | .tens _ => none
  | .five _ => none
  | .refresh _ _ => none
  | .shiftOut _ => none
  | .shiftBit _ => none
  | .latchPulse => none

/-- The bits of a selector word that decide its operation, the column `mask` of the opcode table
with the operand bits `iii` added where the operation has them. Zero where nothing selects the
operation by a selector word. -/
def selectorMask : Instr → Selector
  | .reset => 0x300
  | .pulse => 0x300
  | .tick => 0x3FF
  | .wait => 0x3FF
  | .clkLow _ => 0x37F
  | .dataSet _ => 0x37F
  | .clkHigh _ => 0x37F
  | .latchHigh => 0x37F
  | .latchLow => 0x37F
  | .srShift => 0
  | .srLatch => 0
  | .tickInc => 0
  | .secInc => 0
  | .minInc => 0
  | .hourInc => 0
  | .encode _ _ => 0
  | .tens _ => 0
  | .five _ => 0
  | .refresh _ _ => 0
  | .shiftOut _ => 0
  | .shiftBit _ => 0
  | .latchPulse => 0

/-- The word of a table row laid out as the table numbers it: a row of up to eight bits is a
write-event code, a longer one a selector word. Bits above the row's format are refused. -/
def codeWordOfTable (nbits w : Nat) : Except DecodeError CodeWord :=
  if nbits ≤ 8 then
    if w < 8 then .ok (.trace (BitVec.ofNat 3 w)) else .error .tooWide
  else if w < 1024 then .ok (.selector (BitVec.ofNat 10 w))
  else .error .tooWide

/-- The operation the decoder reads from a word of the opcode table. -/
def decodeTableWord (nbits w : Nat) : Option Instr :=
  match codeWordOfTable nbits w with
  | .ok c =>
    match decode c with
    | .ok i => some i
    | .error _ => none
  | .error _ => none

end Sys2Proof
end

