-- ==== Sys2Proof/Machine/Select.lean ====
section
/-! DEFINITION. The selection of the next operation, in place of an instruction fetch: the codes
of rule R76, the word the state selects by, the state the selected operation runs in, and the
placing of a table row's word where the next step selects by it. -/

namespace Sys2Proof.Machine

/-- The code of a sequencer state (rule R76): `WAIT` 0x00, `SH(i, a)` 0x20 + 4i, `SH(i, b)`
0x21 + 4i, `SH(i, c)` 0x22 + 4i, `LT(hi)` 0x40, `LT(lo)` 0x41. -/
def Seq.code : Seq → SeqCode
  | .wait => 0x00
  | .sh i .a => 0x20 + BitVec.ofNat 7 (4 * i.val)
  | .sh i .b => 0x21 + BitVec.ofNat 7 (4 * i.val)
  | .sh i .c => 0x22 + BitVec.ofNat 7 (4 * i.val)
  | .lt .hi => 0x40
  | .lt .lo => 0x41

/-- The sequencer states in the order a frame passes them (rule R172). -/
def allSeqs : List Seq :=
  .wait :: allBits.flatMap (fun i => [.sh i .a, .sh i .b, .sh i .c]) ++ [.lt .hi, .lt .lo]

/-- The sequencer state of a code; 101 of the 128 codes are none (rule R76). -/
def seqOfCode (c : SeqCode) : Option Seq := allSeqs.find? (fun q => q.code == c)

/-- `EV` of an environment point (rule R76). RESET and PULSE at the same point are RESET: the
PULSE is discarded (rule R195). -/
def EnvPoint.code : EnvPoint → BitVec 2
  | .quiet => 0
  | .pulse => 1
  | .reset => 2
  | .resetAndPulse => 2

/-- The environment point of an `EV` field; 11 is unused (rule R76). -/
def envOfCode (c : BitVec 2) : Option EnvPoint :=
  if c = 0 then some .quiet
  else if c = 1 then some .pulse
  else if c = 2 then some .reset
  else none

/-- The write-event code: `DATA` 0 and 1, `CLOCK` 2 and 3, `LATCH` 4 and 5 (rule R75). -/
def WireEvent.code (e : WireEvent) : TraceCode :=
  (match e.line with
    | .data => (0 : BitVec 2)
    | .clock => 1
    | .latch => 2) ++ BitVec.ofBool e.level

/-- The entry of the transition trace that is an edge of the shift register's. -/
def DeviceEdge.event : DeviceEdge → WireEvent
  | .clockRise => ⟨.clock, true⟩
  | .latchRise => ⟨.latch, true⟩

/-- What the environment does at this point of the run (rule R18). -/
def State.envPoint (s : State) : EnvPoint := s.events.headD .quiet

/-- The selector word of the state: EV, PEND and the code of SEQ (rule R76). -/
def selectorWord (s : State) : Selector :=
  (s.envPoint.code ++ BitVec.ofBool s.pend ++ s.seq.code : BitVec (2 + 1 + 7))

/-- The word the next operation is selected by: the code of an edge put before the shift register
(rule R78), otherwise the selector word (rules R76, R77). -/
def fetched (s : State) : CodeWord :=
  match s.edge with
  | some d => .trace d.event.code
  | none => .selector (selectorWord s)

/-- The environment's point of this step is used up (rule R18). -/
def State.popEvent (s : State) : State := { s with events := s.events.tail }

/-- The state the selected operation runs in. -/
def afterFetch (s : State) : State :=
  match s.edge with
  | some _ => s
  | none => s.popEvent

/-- The selected operation is the next one the machine performs. -/
def nextInstr (s : State) : Except DecodeError Instr := decode (fetched s)

/-- Put a selector word where the next step selects by it: its EV before the environment's
schedule, its PEND, and its SEQ where its code is a state of the sequencer. -/
def placeSelector (w : Selector) (s : State) : State :=
  match envOfCode (fieldEV w) with
  | some e =>
    { s with
      events := e :: s.events
      pend := fieldPend w
      seq := (seqOfCode (w.extractLsb' 0 7)).getD s.seq
      edge := none }
  | none => s

/-- Put a write-event code before the shift register, where it is an edge it reacts to. -/
def placeTrace (c : TraceCode) (s : State) : State :=
  if c = 3 then { s with edge := some .clockRise }
  else if c = 5 then { s with edge := some .latchRise }
  else s

/-- Put a word of the opcode table where the next step selects by it. -/
def placeTableWord (nbits w : Nat) (s : State) : State :=
  match codeWordOfTable nbits w with
  | .ok (.selector v) => placeSelector v s
  | .ok (.trace c) => placeTrace c s
  | .error _ => s

end Sys2Proof.Machine
end

