-- ==== Sys2Proof/Machine/Step.lean ====
section
/-! DEFINITION. One step of a run: one input event or one step of the block (rules R18, R77,
R170), selected by the word the state selects by. -/

namespace Sys2Proof.Machine

/-- One step: decode the word the state selects by and perform that operation, the environment's
point used up. A word that selects nothing is refused (rules R76, R81). -/
def step (s : State) : Host.Outcome State Fault Refusal :=
  match nextInstr s with
  | .ok i => exec i (afterFetch s)
  | .error _ => .refused .badSelector

/-- The state with the word of an opcode table row placed so that the very next step selects by
it: a selector word in EV, PEND and SEQ, a write-event code before the shift register (log
entry 9). -/
def State.withFetchWord (s : State) (nbits w : Nat) : State := placeTableWord nbits w s

end Sys2Proof.Machine
end

