-- ==== Sys2Proof/Machine/BigStep.lean ====
section
/-! DEFINITION. Runs: `n` steps one after the other (rule R18), the big-step reading of a run
(rule R177) and the repeated cascade of rule R112. -/

namespace Sys2Proof.Machine

/-- A run of `n` steps, up to the first refusal (rule R18). -/
def runSteps : Nat → State → Result
  | 0, s => .next s
  | n + 1, s => andThen (step s) (runSteps n)

/-- Finish the frame a TICK has started, if it started one. -/
def finishFrame (s : State) : Result :=
  if s.seq = .wait then .next s else execShiftOut s.txb s

/-- The big step of rule R177: PULSE, then every block step until the block waits again. The spec
does not say from which states it starts. DESIGN CHOICE, safe (log entry 32): from the quiet points;
elsewhere its TICK is refused `notSelected`, where `step` goes on. -/
def pulseThenRun (s : State) : Result :=
  andThen (andThen (execPulse s) execTick) finishFrame

/-- `TICKS n` of rule R85: `n` times PULSE and the steps that serve it, from the quiet points like
the big step it repeats (log entry 32). -/
def pulsesThenRun : Nat → State → Result
  | 0, s => .next s
  | n + 1, s => andThen (pulseThenRun s) (pulsesThenRun n)

/-- The register part of `n` TICKs (rule R112). -/
def ticks : Nat → State → State
  | 0, s => s
  | n + 1, s => ticks n (tickStage s).1

/-- How many of `n` TICKs perform MIN_INC (rule R112). -/
def minuteChanges : Nat → State → Nat
  | 0, _ => 0
  | n + 1, s => (if (tickStage s).2 then 1 else 0) + minuteChanges n (tickStage s).1

end Sys2Proof.Machine
end

