-- ==== Sys2Proof/Safety.lean ====
section
/-! DEFINITION. What a safe state and a safe run are, in the terms the statements use: the ranges
of the time registers, the levels of the lines at each sequencer state, what the shift register
holds, what the LEDs show, and what the two traces record. -/

namespace Sys2Proof.Machine

/-- The invariants of the time registers (rule R25). -/
abbrev State.timeOk (s : State) : Prop :=
  s.tick.toNat < s.cfg.mainsHz ∧ s.sec.toNat ≤ 59 ∧ s.min.toNat ≤ 59 ∧
    1 ≤ s.hour.toNat ∧ s.hour.toNat ≤ 12

/-- A quiet point: SEQ = WAIT and PEND = 0 (rule R208), with no edge before the shift register. -/
abbrev State.quiet (s : State) : Prop := s.seq = .wait ∧ s.pend = false ∧ s.edge = none

/-- The levels of the three lines. -/
structure Levels where
  data  : Bool
  clock : Bool
  latch : Bool
  deriving DecidableEq, Repr

/-- All lines low, as after RESET (rule R39). -/
def Levels.low : Levels := ⟨false, false, false⟩

/-- The level of one line. -/
def Levels.get (l : Levels) : Line → Bool
  | .data => l.data
  | .clock => l.clock
  | .latch => l.latch

/-- The levels after a write. -/
def Levels.after (l : Levels) (e : WireEvent) : Levels :=
  match e.line with
  | .data => { l with data := e.level }
  | .clock => { l with clock := e.level }
  | .latch => { l with latch := e.level }

/-- The levels of the lines in a state. -/
def State.levels (s : State) : Levels := ⟨s.data, s.clock, s.latch⟩

/-- The levels after a list of writes. -/
def levelsAfter (l : Levels) (es : List WireEvent) : Levels := es.foldl Levels.after l

/-- The writes of a list that change a level, in order: how TT comes from WT (rule R17). -/
def transitions (l : Levels) : List WireEvent → List WireEvent
  | [] => []
  | e :: es =>
    if l.get e.line = e.level then transitions l es else e :: transitions (l.after e) es

/-- The three writes of bit slot `i` of a frame for byte `b` (rules R74, R75). -/
def slotEvents (b : Byte) (i : BitIndex) : List WireEvent :=
  [⟨.clock, false⟩, ⟨.data, b.getLsbD i.val⟩, ⟨.clock, true⟩]

/-- The 26 writes of a frame for byte `b` (rules R75, R160). -/
def frameEvents (b : Byte) : List WireEvent :=
  allBits.flatMap (slotEvents b) ++ [⟨.latch, true⟩, ⟨.latch, false⟩]

/-- How many block steps a frame still takes (rule R173). -/
def stepsLeft : Seq → Nat
  | .wait => 0
  | .sh i .a => 26 - 3 * i.val
  | .sh i .b => 25 - 3 * i.val
  | .sh i .c => 24 - 3 * i.val
  | .lt .hi => 2
  | .lt .lo => 1

/-- The levels of the lines at each sequencer state: LATCH is high exactly at `LT(lo)`; CLOCK is
low in a bit slot from its CLK_LOW to its CLK_HIGH and high between slots; DATA holds the last bit
sent; between frames the clock is high, and before the first write since RESET data and clock are
low (rules R159, R162, R163). -/
def State.linesOk (s : State) : Prop :=
  match s.seq with
  | .wait => s.latch = false ∧
      (s.wt = [] → s.data = false ∧ s.clock = false) ∧
      (s.wt ≠ [] → s.data = s.txb.getLsbD 7 ∧ s.clock = true)
  | .sh i .a => s.latch = false ∧
      (i = 0 → (s.wt = [] → s.data = false ∧ s.clock = false) ∧ (s.wt ≠ [] → s.clock = true)) ∧
      (i ≠ 0 → s.data = s.txb.getLsbD (i.val - 1) ∧ s.clock = true)
  | .sh _ .b => s.latch = false ∧ s.clock = false
  | .sh i .c => s.latch = false ∧ s.clock = false ∧ s.data = s.txb.getLsbD i.val
  | .lt .hi => s.latch = false ∧ s.clock = true ∧ s.data = s.txb.getLsbD 7
  | .lt .lo => s.latch = true ∧ s.clock = true ∧ s.data = s.txb.getLsbD 7

/-- What the shift register holds at each sequencer state: the bits of this frame already sent, in
order, below position 7; the whole byte from the latch pulse on; and the outputs equal to it once
latched (rules R211, R212, R214). -/
def State.deviceOk (s : State) : Prop :=
  match s.seq with
  | .wait => s.wt ≠ [] → s.sr = s.txb ∧ s.q = s.txb
  | .sh i _ => ∀ k, k < i.val → s.sr.getLsbD (8 - i.val + k) = s.txb.getLsbD k
  | .lt .hi => s.sr = s.txb
  | .lt .lo => s.sr = s.txb ∧ s.q = s.txb

/-- From the start of the first frame on, the transmit byte is the display byte of the time the
registers hold (rules R29, R171, R176). -/
def State.txbOk (s : State) : Prop :=
  s.seq ≠ .wait ∨ s.wt ≠ [] → s.txb = encodeByte s.hour.toNat s.min.toNat

/-- TT is WT with the writes that changed nothing removed, and the lines are at the levels the
writes since RESET left (rule R17). -/
def State.tracesOk (s : State) : Prop :=
  s.tt = transitions Levels.low s.wt ∧ s.levels = levelsAfter Levels.low s.wt

/-- The invariant every step keeps. -/
structure State.Inv (s : State) : Prop where
  build  : s.cfg.legal
  time   : s.timeOk
  lines  : s.linesOk
  device : s.deviceOk
  shown  : s.txbOk
  traces : s.tracesOk
  noEdge : s.edge = none

/-- The state without what the shift register holds: what is left is the block's and the model's,
which the shift register cannot influence (rule R37). -/
def State.withoutDevice (s : State) : State := { s with sr := 0, q := 0 }

/-- The refusals an operation can end in; one with none completes in every state
(60_exceptions.md sections 1 and 2, log entry 11). -/
def refusalsOf : Instr → List Refusal
  | .reset => [.badConfig]
  | .pulse => [.pulseOverrun]
  | .tick => [.notSelected, .encodeDomain]
  | .tickInc => []
  | .secInc => []
  | .minInc => []
  | .hourInc => []
  | .wait => [.notSelected]
  | .encode _ _ => [.encodeDomain]
  | .tens _ => []
  | .five _ => []
  | .refresh _ _ => [.encodeDomain, .notSelected]
  | .shiftOut _ => [.notSelected]
  | .shiftBit _ => [.notSelected]
  | .clkLow _ => [.notSelected]
  | .dataSet _ => [.notSelected]
  | .clkHigh _ => [.notSelected]
  | .latchPulse => [.notSelected]
  | .latchHigh => [.notSelected]
  | .latchLow => [.notSelected]
  | .srShift => []
  | .srLatch => []

/-- The flat reading of the cascade: four tests in a row, each on its register as the one before
left it (rule R110). The registers are whole numbers here, so that a register can hold its limit
for the moment the flat reading needs: TICK, SEC, MIN, HOUR and `minute_changed`. -/
def flatTick (F t s m h : Nat) : Nat × Nat × Nat × Nat × Bool :=
  let t1 := t + 1
  let s1 := if t1 = F then s + 1 else s
  let t2 := if t1 = F then 0 else t1
  let m1 := if s1 = 60 then m + 1 else m
  let changed := decide (s1 = 60)
  let s2 := if s1 = 60 then 0 else s1
  let h1 := if m1 = 60 then h + 1 else h
  let m2 := if m1 = 60 then 0 else m1
  let h2 := if h1 = 13 then 1 else h1
  (t2, s2, m2, h2, changed)

end Sys2Proof.Machine
end

