-- ==== Sys2Proof/Certificates/Slice0/Obligations.lean ====
section
/-! DEFINITION. The statements for the provers. Each docstring names the rule or the section of
the spec it rests on; a statement that rests on a decision of the spec or of the model says so. -/

open Sys2Proof Sys2Proof.Machine

/-! ## Encoding and selection -/

/-- 30_encoding.md section 4 and the opcode table; the selection code is the spec's own decision
D17. The decoder reads every encoded operation back, with every bit index, and exactly the
operations the spec calls selectable have a word. -/
def Obligations.DecodeReadsBackEveryEncodedOperation : Prop :=
  (∀ (i : Instr) (c : CodeWord), encode i = some c → decode c = .ok i) ∧
    ∀ i : Instr, (encode i).isSome = i.selectable

/-- The masks and patterns of the opcode table (decision D17): a selector word selects an operation
exactly when it has that operation's pattern under its mask, so no two rows overlap and every word
with no row is rejected. -/
def Obligations.SelectorWordsDecodeByMaskAndPattern : Prop :=
  ∀ (w : Selector) (i : Instr),
    decodeSelector w = .ok i ↔
      ∃ v : Selector, encode i = some (.selector v) ∧ w &&& selectorMask i = v

/-- Words written out from the patterns of the opcode table and the examples of vector V7 (decision
D17) decode to the operations they stand for, and three words with an unused field to none. -/
def Obligations.WordsWrittenFromTheTableDecode : Prop :=
  decodeTableWord 16 0b1000000000 = some .reset ∧
  decodeTableWord 16 0b1001000001 = some .reset ∧
  decodeTableWord 16 0b0100101101 = some .pulse ∧
  decodeTableWord 16 0b0010000000 = some .tick ∧
  decodeTableWord 16 0b0000000000 = some .wait ∧
  decodeTableWord 16 0b0000110000 = some (.clkLow 4) ∧
  decodeTableWord 16 0b0000101101 = some (.dataSet 3) ∧
  decodeTableWord 16 0b0010101101 = some (.dataSet 3) ∧
  decodeTableWord 16 0b0000111110 = some (.clkHigh 7) ∧
  decodeTableWord 16 0b0001000000 = some .latchHigh ∧
  decodeTableWord 16 0b0011000001 = some .latchLow ∧
  decodeTableWord 8 0b011 = some .srShift ∧
  decodeTableWord 8 0b101 = some .srLatch ∧
  decodeTableWord 16 0b1100000000 = none ∧
  decodeTableWord 16 0b0001100000 = none ∧
  decodeTableWord 16 0b0000100011 = none

/-- A step performs the operation its word selects. The word is the code of an edge put before the
shift register, or else EV, PEND and the code of SEQ; what the step adds around the operation is
that the environment's point is used up (30_encoding.md section 4 with decision D17; the edge is the
model's, log entry 5). -/
def Obligations.StepPerformsTheSelectedOperation : Prop :=
  ∀ (s : State) (i : Instr),
    (s.edge = none →
      decode (.selector (s.envPoint.code ++ BitVec.ofBool s.pend ++ s.seq.code)) = .ok i →
      step s = exec i { s with events := s.events.tail }) ∧
    (∀ d : DeviceEdge, s.edge = some d → decode (.trace d.event.code) = .ok i →
      step s = exec i s)

/-- 30_encoding.md section 4 (a selection the spec derives) with decision D20: which operation each
step performs, RESET before PULSE when both are delivered at one point, a PULSE before a step of the
block, and without an event the sequencer's own. -/
def Obligations.StepSelectsByEventThenBySequencer : Prop :=
  ∀ s : State, s.edge = none →
    let u : State := { s with events := s.events.tail }
    (s.envPoint = .reset ∨ s.envPoint = .resetAndPulse → step s = exec .reset u) ∧
    (s.envPoint = .pulse → step s = exec .pulse u) ∧
    (s.envPoint = .quiet →
      (s.seq = .wait → s.pend = true → step s = exec .tick u) ∧
      (s.seq = .wait → s.pend = false → step s = exec .wait u) ∧
      (∀ i, s.seq = .sh i .a → step s = exec (.clkLow i) u) ∧
      (∀ i, s.seq = .sh i .b → step s = exec (.dataSet i) u) ∧
      (∀ i, s.seq = .sh i .c → step s = exec (.clkHigh i) u) ∧
      (s.seq = .lt .hi → step s = exec .latchHigh u) ∧
      (s.seq = .lt .lo → step s = exec .latchLow u))

/-- The word of every selectable operation, placed in any state, is what the next step performs (the
model's choice, log entry 9). -/
def Obligations.PlacedWordIsPerformedNext : Prop :=
  ∀ (s : State) (i : Instr),
    (∀ w : Selector, encode i = some (.selector w) →
      step (s.withFetchWord 16 w.toNat) =
        exec i { s.withFetchWord 16 w.toNat with events := s.events }) ∧
    (∀ c : TraceCode, encode i = some (.trace c) →
      step (s.withFetchWord 8 c.toNat) = exec i (s.withFetchWord 8 c.toNat))

/-! ## The input events -/

/-- 40_timekeeper.md section 1 with decision D8: PULSE sets PEND and changes nothing else; a PULSE
while PEND = 1 is refused, neither dropped nor counted. -/
def Obligations.PulseIsLatchedOrRefused : Prop :=
  ∀ s : State,
    (s.pend = false → exec .pulse s = .next { s with pend := true }) ∧
    (s.pend = true → exec .pulse s = .refused .pulseOverrun)

/-- 70_reset_and_hazards.md section 1 with decisions D3 to D9 and D25: RESET of a legal build gives
the initial time, all lines low, no pending pulse, empty traces and some value in TXB, and leaves
the shift register and the build alone; an illegal build is refused. -/
def Obligations.ResetInitialisesTheBlock : Prop :=
  ∀ s : State,
    (s.cfg.legal → ∃ b : Byte, exec .reset s = .next
      { s with
        hour := BitVec.ofNat 4 s.cfg.initHour, min := BitVec.ofNat 6 s.cfg.initMin,
        sec := BitVec.ofNat 6 s.cfg.initSec, tick := 0, seq := .wait, pend := false,
        data := false, clock := false, latch := false, txb := b, free := s.free + 1,
        wt := [], tt := [] }) ∧
    (¬ s.cfg.legal → exec .reset s = .refused .badConfig)

/-- The table of 10_state.md section 8 (decisions D3, D4, D6, D9), for every legal build: the
registers hold exactly the build's initial time, and nothing is driven or pending. -/
def Obligations.ResetStateHoldsTheInitialTime : Prop :=
  ∀ p : Params, p.legal →
    let s := State.resetWith p
    s.hour.toNat = p.initHour ∧ s.min.toNat = p.initMin ∧ s.sec.toNat = p.initSec ∧
      s.tick = 0 ∧ s.seq = .wait ∧ s.pend = false ∧ s.levels = Levels.low ∧
      s.wt = [] ∧ s.tt = [] ∧ s.cfg = p

/-! ## The Timekeeper -/

/-- Rule R102. TICK + 1 is compared with F; on equality TICK is 0 and SEC_INC is performed,
otherwise TICK is TICK + 1 (for every value that fits the six bits) and nothing else changes. -/
def Obligations.TickIncCountsModuloTheMainsFrequency : Prop :=
  ∀ s : State,
    (s.tick.toNat + 1 = s.cfg.mainsHz → ∃ t : State,
      exec .secInc { s with tick := 0 } = .next t ∧ exec .tickInc s = .next t) ∧
    (s.tick.toNat + 1 ≠ s.cfg.mainsHz → s.tick.toNat + 1 ≤ 63 →
      exec .tickInc s = .next { s with tick := BitVec.ofNat 6 (s.tick.toNat + 1) })

/-- Rule R103. SEC + 1 is compared with 60; on equality SEC is 0 and MIN_INC is performed, otherwise
SEC is SEC + 1 and nothing else changes. -/
def Obligations.SecIncCarriesAtSixty : Prop :=
  ∀ s : State,
    (s.sec.toNat = 59 → ∃ t : State,
      exec .minInc { s with sec := 0 } = .next t ∧ exec .secInc s = .next t) ∧
    (s.sec.toNat < 59 →
      exec .secInc s = .next { s with sec := BitVec.ofNat 6 (s.sec.toNat + 1) })

/-- Rule R104. MIN + 1 is compared with 60; on equality MIN is 0 and HOUR_INC is performed,
otherwise MIN is MIN + 1. `minute_changed` is true exactly in the TICKs that perform MIN_INC, and
every MIN_INC that starts in range changes MIN. -/
def Obligations.MinIncCarriesAtSixty : Prop :=
  ∀ s : State,
    (s.min.toNat = 59 → ∃ t : State,
      exec .hourInc { s with min := 0 } = .next t ∧ exec .minInc s = .next t ∧ t.min = 0) ∧
    (s.min.toNat < 59 →
      exec .minInc s = .next { s with min := BitVec.ofNat 6 (s.min.toNat + 1) }) ∧
    ((tickStage s).2 = true ↔ s.tick.toNat + 1 = s.cfg.mainsHz ∧ s.sec.toNat + 1 = 60)

/-- Rule R105. The 12-hour wheel: HOUR + 1, except that 12 is followed by 1; nothing is carried out
of HOUR, so nothing else changes. -/
def Obligations.HourWheelWrapsTwelveToOne : Prop :=
  ∀ s : State,
    (s.hour.toNat = 12 → exec .hourInc s = .next { s with hour := 1 }) ∧
    (s.hour.toNat < 12 →
      exec .hourInc s = .next { s with hour := BitVec.ofNat 4 (s.hour.toNat + 1) })

/-- The model's choice (log entry 8), in states no run reaches: an increment whose value does not
fit its register completes with some value there, and no other register changes. -/
def Obligations.IncrementThatDoesNotFitCompletes : Prop :=
  ∀ s : State,
    (s.tick.toNat = 63 → s.cfg.mainsHz ≠ 64 →
      ∃ v, exec .tickInc s = .next { s with tick := v, free := s.free + 1 }) ∧
    (s.sec.toNat = 63 → ∃ v, exec .secInc s = .next { s with sec := v, free := s.free + 1 }) ∧
    (s.min.toNat = 63 → ∃ v, exec .minInc s = .next { s with min := v, free := s.free + 1 }) ∧
    (s.hour.toNat = 15 → ∃ v, exec .hourInc s = .next { s with hour := v, free := s.free + 1 })

/-- 42_shift_out.md section 3 and 40_timekeeper.md sections 2 and 3 (decisions D1 and D16). Where
SEQ = WAIT and PEND = 1, in range, the TICK step clears PEND, runs the cascade of TICK_INC, and
then, when the refresh condition holds, captures ENCODE(HOUR, MIN) of the registers as just written
in TXB and goes to `SH(0, a)`; otherwise SEQ stays WAIT. Nothing else changes: no line, no trace.
The refresh condition is that of the build's policy: every TICK, or the TICKs in which the second
rollover is also a minute rollover. -/
def Obligations.TickStepRunsTheCascadeAndStartsTheRefresh : Prop :=
  ∀ s : State, s.timeOk → s.cfg.mainsHz ≤ 63 → s.seq = .wait → s.pend = true →
    ∃ u : State,
      exec .tickInc { s with pend := false } = .next u ∧
      u = { s with
            pend := false, tick := u.tick, sec := u.sec, min := u.min, hour := u.hour } ∧
      exec .tick s = .next
        (if s.cfg.refreshPolicy = .everyTick ∨
            (s.tick.toNat + 1 = s.cfg.mainsHz ∧ s.sec.toNat + 1 = 60)
          then { u with txb := encodeByte u.hour.toNat u.min.toNat, seq := .sh 0 .a }
          else u)

/-- Rule R25. RESET of a legal build establishes the ranges of the time registers, and every TICK
that completes keeps them, as does every other step. -/
def Obligations.TimeRegistersStayInRange : Prop :=
  (∀ s t : State, exec .reset s = .next t → t.timeOk) ∧
  (∀ s t : State, s.cfg.legal → s.timeOk → exec .tick s = .next t → t.timeOk) ∧
  (∀ s t : State, s.cfg.legal → s.timeOk → step s = .next t → t.cfg.legal ∧ t.timeOk)

/-- 40_timekeeper.md section 5, a law the spec derives: the closed form of `n` TICKs from any time
in range, and the number of them that perform MIN_INC. -/
def Obligations.CascadeHasTheClosedForm : Prop :=
  ∀ (n : Nat) (s : State), s.cfg.legal → s.timeOk →
    let c := s.tick.toNat + n
    let k1 := c / s.cfg.mainsHz
    let k2 := (s.sec.toNat + k1) / 60
    let k3 := (s.min.toNat + k2) / 60
    let t := ticks n s
    t.tick.toNat = c % s.cfg.mainsHz ∧
      t.sec.toNat = (s.sec.toNat + k1) % 60 ∧
      t.min.toNat = (s.min.toNat + k2) % 60 ∧
      t.hour.toNat = (s.hour.toNat - 1 + k3) % 12 + 1 ∧
      minuteChanges n s = k2

/-- 40_timekeeper.md section 5, a law the spec derives: the time registers return after exactly
43200 F TICKs and not sooner. -/
def Obligations.TimeRegistersReturnAfterOnePeriodOnly : Prop :=
  ∀ (n : Nat) (s : State), s.cfg.legal → s.timeOk → 0 < n → n ≤ 43200 * s.cfg.mainsHz →
    (((ticks n s).tick = s.tick ∧ (ticks n s).sec = s.sec ∧ (ticks n s).min = s.min ∧
      (ticks n s).hour = s.hour) ↔ n = 43200 * s.cfg.mainsHz)

/-- 40_timekeeper.md section 5, a law the spec derives: the nested cascade and the flat reading give
the same registers and the same `minute_changed`. -/
def Obligations.NestedAndFlatReadingsAgree : Prop :=
  ∀ s : State, s.cfg.legal → s.timeOk →
    ((tickStage s).1.tick.toNat, (tickStage s).1.sec.toNat, (tickStage s).1.min.toNat,
        (tickStage s).1.hour.toNat, (tickStage s).2) =
      flatTick s.cfg.mainsHz s.tick.toNat s.sec.toNat s.min.toNat s.hour.toNat

/-- 40_timekeeper.md section 4 with decision D26: WAIT changes no state, and the machine stays in it
until an event comes. -/
def Obligations.WaitChangesNothing : Prop :=
  ∀ s : State, s.seq = .wait → s.pend = false →
    exec .wait s = .next s ∧ (s.edge = none → s.events = [] → step s = .next s)

/-! ## The display encoder -/

/-- 41_display_encoder.md section 1. TENS is the whole-number quotient of the minutes by 10, at most
5; it changes no register and no trace. Where its value is recorded, the field `result`, widened to
a byte, is the model's choice (log entry 6). -/
def Obligations.TensIsTheTensDigit : Prop :=
  ∀ (m : Nat) (s : State), m ≤ 59 →
    m / 10 ≤ 5 ∧
      exec (.tens m) s = .next { s with result := BitVec.ofNat 8 (m / 10) }

/-- 41_display_encoder.md section 1. FIVE is 1 exactly when the units digit of the minutes is at least
5; it changes no register and no trace. Where its value is recorded, the field `result`, widened to
a byte, is the model's choice (log entry 6). -/
def Obligations.FiveFlagIsTheUpperHalfOfTheDecade : Prop :=
  ∀ (m : Nat) (s : State), m ≤ 59 →
    exec (.five m) s = .next { s with result := if 5 ≤ m % 10 then 1 else 0 }

/-- 41_display_encoder.md section 1. ENCODE is the OR of the hours shifted left by 4, TENS shifted left
by 1 and FIVE, at most 0xCB on its domain; it changes no register and no trace. Where its value is
recorded, the field `result`, is the model's choice (log entry 6). -/
def Obligations.EncodePacksHoursTensAndFive : Prop :=
  ∀ (h m : Nat) (s : State), 1 ≤ h → h ≤ 12 → m ≤ 59 →
    ∃ b : Byte,
      b = ((BitVec.ofNat 8 h <<< 4) ||| (BitVec.ofNat 8 (m / 10) <<< 1) |||
        (if 5 ≤ m % 10 then 1 else 0)) ∧
      b ≤ 0xCB ∧ exec (.encode h m) s = .next { s with result := b }

/-- 41_display_encoder.md section 3, the round trip: the fields of the display byte read back as the
hours, the tens digit and the five-flag. -/
def Obligations.DisplayByteFieldsReadBack : Prop :=
  ∀ h m : Nat, 1 ≤ h → h ≤ 12 → m ≤ 59 →
    (hoursField (encodeByte h m)).toNat = h ∧
      (tensField (encodeByte h m)).toNat = m / 10 ∧
      fiveField (encodeByte h m) = decide (5 ≤ m % 10)

/-- 30_encoding.md section 2 and 41_display_encoder.md sections 2 and 3, laws the spec derives: the
display byte is 16 times the hours plus a fifth of the minutes, and two times share a byte exactly
when they share the hour and the five-minute slot. -/
def Obligations.DisplayByteIsHoursAndFifthOfMinutes : Prop :=
  ∀ h m h' m' : Nat, 1 ≤ h → h ≤ 12 → m ≤ 59 → 1 ≤ h' → h' ≤ 12 → m' ≤ 59 →
    (encodeByte h m).toNat = 16 * h + m / 5 ∧
      (encodeByte h m = encodeByte h' m' ↔ h = h' ∧ m / 5 = m' / 5)

/-- 41_display_encoder.md section 3 with decision D18: outside the domain ENCODE is refused. So is
REFRESH, which is SHIFT_OUT of ENCODE by 42_shift_out.md section 1 and 30_encoding.md section 6 (the
model's inference, log entry 26). The model's choice for TENS and FIVE (log entries 6 and 10): for
minutes above 59, where the spec states no result, they complete with some value of three bits and
of one bit, and nothing else of the machine changes. -/
def Obligations.DisplayFunctionsOutsideTheirDomain : Prop :=
  ∀ (h m : Nat) (s : State),
    (h = 0 ∨ 12 < h ∨ 59 < m →
      exec (.encode h m) s = .refused .encodeDomain ∧
        exec (.refresh h m) s = .refused .encodeDomain) ∧
    (59 < m → ∃ (v : BitVec 3) (w : BitVec 1),
      exec (.tens m) s = .next { s with result := v.setWidth 8, free := s.free + 1 } ∧
        exec (.five m) s = .next { s with result := w.setWidth 8, free := s.free + 1 })

/-! ## The line-drive steps -/

/-- Rule R153. At `SH(i, a)` CLK_LOW drives CLOCK low and goes to `SH(i, b)`. The write is always
recorded; it is a transition exactly when CLOCK was high, and the shift register does nothing. From
states the invariant allows CLOCK is 1 there, so that it is a falling edge, for every bit but the
first; for the first bit it is one exactly when a write has been made since RESET. -/
def Obligations.ClkLowDrivesTheClockLow : Prop :=
  ∀ (i : BitIndex) (s : State), s.seq = .sh i .a →
    exec (.clkLow i) s = .next
      { s with
        clock := false, seq := .sh i .b, wt := s.wt ++ [⟨.clock, false⟩],
        tt := if s.clock then s.tt ++ [⟨.clock, false⟩] else s.tt } ∧
    (s.Inv → i ≠ 0 → s.clock = true) ∧
    (s.Inv → i = 0 → (s.clock = true ↔ s.wt ≠ []))

/-- 42_shift_out.md section 2 with 60_exceptions.md section 5 (decision D13, log entry 23: a change
of DATA does nothing to the shift register). At `SH(i, b)` DATA_SET drives DATA to bit `i` of TXB
and goes to `SH(i, c)`. The write is always recorded; it is a transition exactly when the level
changes, and the shift register does nothing. It happens while CLOCK is 0. -/
def Obligations.DataSetDrivesTheBitOfTheTransmitByte : Prop :=
  ∀ (i : BitIndex) (s : State), s.seq = .sh i .b →
    exec (.dataSet i) s = .next
      { s with
        data := s.txb.getLsbD i.val, seq := .sh i .c,
        wt := s.wt ++ [⟨.data, s.txb.getLsbD i.val⟩],
        tt := if s.data = s.txb.getLsbD i.val then s.tt
          else s.tt ++ [⟨.data, s.txb.getLsbD i.val⟩] } ∧
    (s.Inv → s.clock = false)

/-- 42_shift_out.md section 2 with 60_exceptions.md section 5 (decision D13 for the stage a bit
enters). At `SH(i, c)` CLK_HIGH drives CLOCK high and goes to the next bit, after bit 7 to `LT(hi)`.
On the rising edge the shift register takes DATA at position 7 and moves every other bit one
position down. From states the invariant allows it is always a rising edge. -/
def Obligations.ClkHighDrivesTheClockHighAndShifts : Prop :=
  ∀ (i : BitIndex) (s : State), s.seq = .sh i .c →
    exec (.clkHigh i) s = .next
      { s with
        clock := true, seq := if h : i.val < 7 then .sh ⟨i.val + 1, by omega⟩ .a else .lt .hi,
        wt := s.wt ++ [⟨.clock, true⟩],
        tt := if s.clock then s.tt else s.tt ++ [⟨.clock, true⟩],
        sr := if s.clock then s.sr else (s.sr >>> 1) ||| (if s.data then 0x80 else 0) } ∧
    (s.Inv → s.clock = false)

/-- 42_shift_out.md section 2 with 60_exceptions.md section 5 (decision D12 for the latch edge). At
`LT(hi)` LATCH_HIGH drives LATCH high and goes to `LT(lo)`; on the rising edge the outputs take the
shift stages. From states the invariant allows it is always a rising edge. -/
def Obligations.LatchHighDrivesTheLatchHighAndCopies : Prop :=
  ∀ s : State, s.seq = .lt .hi →
    exec .latchHigh s = .next
      { s with
        latch := true, seq := .lt .lo, wt := s.wt ++ [⟨.latch, true⟩],
        tt := if s.latch then s.tt else s.tt ++ [⟨.latch, true⟩],
        q := if s.latch then s.q else s.sr } ∧
    (s.Inv → s.latch = false)

/-- 42_shift_out.md section 2 with 60_exceptions.md section 5 (decision D12, log entry 23: the
falling latch edge copies nothing). At `LT(lo)` LATCH_LOW drives LATCH low and goes to WAIT; the
shift register does nothing. From states the invariant allows it is always a falling edge, and a
pulse deferred until now is served by the next step. -/
def Obligations.LatchLowEndsTheFrame : Prop :=
  ∀ s : State, s.seq = .lt .lo →
    ∃ t : State,
      t = { s with
            latch := false, seq := .wait, wt := s.wt ++ [⟨.latch, false⟩],
            tt := if s.latch then s.tt ++ [⟨.latch, false⟩] else s.tt } ∧
      exec .latchLow s = .next t ∧
      (s.Inv → s.latch = true) ∧
      (s.pend = true → s.edge = none → s.envPoint = .quiet →
        step t = exec .tick { t with events := t.events.tail })

/-- 30_encoding.md section 4 and the enabling conditions of 42_shift_out.md (the model's reading, log
entries 11 and 12): an operation the sequencer selects is refused where its state does not select
it, and so is a sequence where its first member is, or while another frame is being sent. -/
def Obligations.UnselectedStepsAreRefused : Prop :=
  ∀ s : State,
    (¬ (s.seq = .wait ∧ s.pend = true) → exec .tick s = .refused .notSelected) ∧
    (¬ (s.seq = .wait ∧ s.pend = false) → exec .wait s = .refused .notSelected) ∧
    (∀ i, s.seq ≠ .sh i .a → exec (.clkLow i) s = .refused .notSelected ∧
      exec (.shiftBit i) s = .refused .notSelected) ∧
    (∀ i, s.seq ≠ .sh i .b → exec (.dataSet i) s = .refused .notSelected) ∧
    (∀ i, s.seq ≠ .sh i .c → exec (.clkHigh i) s = .refused .notSelected) ∧
    (s.seq ≠ .lt .hi → exec .latchHigh s = .refused .notSelected ∧
      exec .latchPulse s = .refused .notSelected) ∧
    (s.seq ≠ .lt .lo → exec .latchLow s = .refused .notSelected) ∧
    (∀ b, s.seq ≠ .wait → ¬ (s.seq = .sh 0 .a ∧ s.txb = b) →
      exec (.shiftOut b) s = .refused .notSelected) ∧
    (∀ h m : Nat, 1 ≤ h → h ≤ 12 → m ≤ 59 → s.seq ≠ .wait →
      ¬ (s.seq = .sh 0 .a ∧ s.txb = encodeByte h m) →
      exec (.refresh h m) s = .refused .notSelected)

/-! ## The sequences -/

/-- Rule R152. SHIFT_BIT(i), at `SH(i, a)`, is CLK_LOW, DATA_SET and CLK_HIGH at index `i`, in that
order, and completes. -/
def Obligations.ShiftBitIsItsThreeSteps : Prop :=
  ∀ (i : BitIndex) (s : State), s.seq = .sh i .a →
    ∃ u v t : State,
      exec (.clkLow i) s = .next u ∧ exec (.dataSet i) u = .next v ∧
        exec (.clkHigh i) v = .next t ∧ exec (.shiftBit i) s = .next t ∧
        t.wt = s.wt ++ [⟨.clock, false⟩, ⟨.data, s.txb.getLsbD i.val⟩, ⟨.clock, true⟩]

/-- Rule R156. LATCH_PULSE, at `LT(hi)`, is LATCH_HIGH and then LATCH_LOW, completes and ends at
WAIT. The block step at the last clock edge of bit 7 leads to `LT(hi)`, and nothing else does. A
frame has one latch pulse: its 24 other writes, which all come before, are to other lines. -/
def Obligations.LatchPulseIsHighThenLow : Prop :=
  (∀ s : State, s.seq = .lt .hi →
    ∃ u t : State,
      exec .latchHigh s = .next u ∧ exec .latchLow u = .next t ∧
        exec .latchPulse s = .next t ∧ t.seq = .wait ∧
        t.wt = s.wt ++ [⟨.latch, true⟩, ⟨.latch, false⟩]) ∧
  (∀ s : State, s.edge = none → s.envPoint = .quiet → s.seq = .sh 7 .c →
    ∃ t : State, step s = .next t ∧ t.seq = .lt .hi) ∧
  (∀ s t : State, s.edge = none → step s = .next t → t.seq = .lt .hi →
    s.seq = .sh 7 .c ∨ (s.seq = .lt .hi ∧ s.envPoint = .pulse)) ∧
  (∀ s : State, s.seq = .sh 0 .a →
    ∃ (t : State) (bits : List WireEvent),
      exec (.shiftOut s.txb) s = .next t ∧ t.seq = .wait ∧
        t.wt = s.wt ++ bits ++ [⟨.latch, true⟩, ⟨.latch, false⟩] ∧
        bits.length = 24 ∧ ∀ e ∈ bits, e.line ≠ .latch)

/-- 42_shift_out.md sections 1 and 4 and 60_exceptions.md section 5 (decisions D12 and D13): a whole
frame for any byte, from its own first step, where a TICK leaves the block, and also from rest (the
model's choice, log entry 12), completes and leaves exactly this: the 26 writes in order, the
transitions among them, CLOCK high, DATA at bit 7, LATCH low, the byte in TXB and in SR, and in Q
unless LATCH started high; the sequencer waits, nothing else changes. -/
def Obligations.ShiftOutSendsTheFrame : Prop :=
  ∀ (b : Byte) (s : State), s.seq = .wait ∨ (s.seq = .sh 0 .a ∧ s.txb = b) →
    exec (.shiftOut b) s = .next
      { s with
        txb := b, seq := .wait, data := b.getLsbD 7, clock := true, latch := false,
        wt := s.wt ++ frameEvents b, tt := s.tt ++ transitions s.levels (frameEvents b),
        sr := b, q := if s.latch then s.q else b }

/-- 42_shift_out.md section 1. REFRESH(hours, minutes) is SHIFT_OUT(ENCODE(hours, minutes)), and
completes for every time in the domain, from the first step of the frame for that time, where a
TICK leaves the block, and also from rest (the model's choice, log entry 12). The byte it leaves in
the shift register is the one ENCODE returns, read off the model's own field (log entry 6). -/
def Obligations.RefreshIsShiftOutOfEncode : Prop :=
  ∀ (h m : Nat) (s : State), 1 ≤ h → h ≤ 12 → m ≤ 59 →
    s.seq = .wait ∨ (s.seq = .sh 0 .a ∧ s.txb = encodeByte h m) →
    ∃ t : State,
      exec (.refresh h m) s = .next t ∧ exec (.shiftOut (encodeByte h m)) s = .next t ∧
        exec (.encode h m) s = .next { s with result := t.sr }

/-- 42_shift_out.md section 4, a law the spec derives: in every frame 8 rising edges of CLOCK, 7 or
8 falling ones, one rising and one falling edge of LATCH when it started low, and at most 8 changes
of DATA. -/
def Obligations.FrameShowsItsCountOfTransitions : Prop :=
  ∀ (b : Byte) (d c : Bool),
    let tt := transitions ⟨d, c, false⟩ (frameEvents b)
    tt.count ⟨.clock, true⟩ = 8 ∧
      tt.count ⟨.clock, false⟩ = (if c then 8 else 7) ∧
      tt.count ⟨.latch, true⟩ = 1 ∧ tt.count ⟨.latch, false⟩ = 1 ∧
      tt.count ⟨.data, true⟩ + tt.count ⟨.data, false⟩ ≤ 8

/-- 42_shift_out.md section 1: from the first step of a frame, with no event, 26 block steps are
SHIFT_OUT of the transmit byte. -/
def Obligations.TwentySixStepsAreShiftOut : Prop :=
  ∀ s : State, s.seq = .sh 0 .a → s.edge = none → s.events = [] →
    runSteps 26 s = exec (.shiftOut s.txb) s

/-- 42_shift_out.md section 3, a law the spec derives: a frame once started finishes. Each block
step takes it one step on, a PULSE leaves it where it is, and only RESET cuts it short. -/
def Obligations.FrameTakesOneStepAtATime : Prop :=
  ∀ s t : State, s.edge = none → s.seq ≠ .wait → step s = .next t →
    (s.envPoint = .quiet → stepsLeft t.seq + 1 = stepsLeft s.seq ∧ t.txb = s.txb) ∧
    (s.envPoint = .pulse → t.seq = s.seq ∧ t.txb = s.txb) ∧
    (s.envPoint = .reset ∨ s.envPoint = .resetAndPulse → t.seq = .wait)

/-- 42_shift_out.md section 3, a law the spec derives: it does not matter between which two steps of
a frame a PULSE falls. -/
def Obligations.PulseCommutesWithAFrameStep : Prop :=
  ∀ (s : State) (rest : List EnvPoint), s.edge = none → s.seq ≠ .wait → s.pend = false →
    runSteps 2 { s with events := .pulse :: .quiet :: rest } =
      runSteps 2 { s with events := .quiet :: .pulse :: rest }

/-! ## The shift register and the LEDs -/

/-- 60_exceptions.md section 5 with decision D13: on a rising edge of CLOCK the level of DATA enters
at position 7 and every older bit moves one position down; Q and the block are not touched. -/
def Obligations.ShiftRegisterTakesDataAtPositionSeven : Prop :=
  ∀ s : State, ∃ t : State,
    exec .srShift s = .next t ∧ t = { s with sr := t.sr, edge := none } ∧
      t.sr.getLsbD 7 = s.data ∧ ∀ k, k < 7 → t.sr.getLsbD k = s.sr.getLsbD (k + 1)

/-- 60_exceptions.md section 5 with decision D12: on a rising edge of LATCH all eight outputs take
the shift stages; nothing else changes. -/
def Obligations.LatchEdgeCopiesTheShiftStages : Prop :=
  ∀ s : State, exec .srLatch s = .next { s with q := s.sr, edge := none }

/-- 60_exceptions.md section 5 with decision D14: when the outputs hold the display byte of a time,
LEDs 7 to 4 show the hours in binary, LEDs 3 to 1 the tens digit, LED 0 the five-flag. -/
def Obligations.LedsShowHoursTensAndFive : Prop :=
  ∀ (s : State) (h m : Nat), 1 ≤ h → h ≤ 12 → m ≤ 59 → s.q = encodeByte h m →
    (∀ k : Fin 4, s.led ⟨4 + k.val, by omega⟩ = h.testBit k.val) ∧
      (∀ k : Fin 3, s.led ⟨1 + k.val, by omega⟩ = (m / 10).testBit k.val) ∧
      s.led 0 = decide (5 ≤ m % 10)

/-- 42_shift_out.md section 4, a law the spec derives: at every rising edge of CLOCK in a step from
a state that meets the invariant, DATA is the bit of the transmit byte for that slot, it does not
move in that step, and it is what the shift register takes in, at position 7 (60_exceptions.md
section 5, decision D13, log entry 23). -/
def Obligations.DataIsTheBitAtEveryRisingClockEdge : Prop :=
  ∀ s t : State, s.Inv → step s = .next t → s.clock = false → t.clock = true →
    ∃ i : BitIndex, s.seq = .sh i .c ∧ s.data = s.txb.getLsbD i.val ∧ t.data = s.data ∧
      t.sr.getLsbD 7 = s.data

/-- 60_exceptions.md section 5 with decision D12, a law the spec derives: in every step the outputs
change only at a rising edge of LATCH, and then all positions together, to the shift stages. -/
def Obligations.OutputsChangeOnlyAtTheLatchEdge : Prop :=
  ∀ s t : State, step s = .next t → t.q ≠ s.q →
    t.q = s.sr ∧
      (s.edge = some .latchRise ∨
        (s.edge = none ∧ s.envPoint = .quiet ∧ s.seq = .lt .hi ∧ s.latch = false))

/-! ## The whole machine -/

/-- 60_exceptions.md sections 1 and 2 (the refusals of decisions D8, D18 and D25, and log entry 11):
what every operation and every step can answer, in every state. It is a next state or one of the
refusals named for it, so an operation with none named completes in every state with every operand,
TENS and FIVE above 59 minutes and increments that do not fit their register by the model's choices
of log entries 10 and 8, and nothing ends in an exception. -/
def Obligations.EachOperationCompletesOrIsRefusedByName : Prop :=
  (∀ (i : Instr) (s : State),
    (∃ t : State, exec i s = .next t) ∨ ∃ r ∈ refusalsOf i, exec i s = .refused r) ∧
  (∀ s : State,
    (∃ t : State, step s = .next t) ∨
      step s = .refused .pulseOverrun ∨ step s = .refused .encodeDomain ∨
        step s = .refused .badConfig)

/-- Every legal build starts in the invariant (10_state.md section 8 with decisions D3 to D9). -/
def Obligations.ResetStateMeetsTheInvariant : Prop :=
  ∀ p : Params, p.legal → (State.resetWith p).Inv

/-- Laws the spec derives in 10_state.md section 2, 42_shift_out.md sections 3 and 4 and
60_exceptions.md section 5, with decisions D12, D13 and D22, as one invariant: legal build, time in
range, line levels and shift register as the sequencer state has them, the transmit byte that of the
time, TT read off WT. Every step of every state that meets it gives a state that meets it. -/
def Obligations.EveryStepKeepsTheInvariant : Prop :=
  ∀ s t : State, s.Inv → step s = .next t → t.Inv

/-- 60_exceptions.md section 5 (decisions D7, D12 and D13): along every run from a state that meets
the invariant, whenever the block waits and a frame has been sent since RESET, the LEDs show the
time the registers hold. -/
def Obligations.LedsShowTheTimeAtRest : Prop :=
  ∀ (n : Nat) (s t : State), s.Inv → runSteps n s = .next t →
    t.seq = .wait → t.wt ≠ [] →
      t.q = encodeByte t.hour.toNat t.min.toNat ∧ t.sr = t.q ∧ t.clock = true ∧ t.latch = false

/-- 60_exceptions.md section 2 (decision D8): from the invariant the one thing that stops a run is a
PULSE delivered while one is pending; every other step completes. -/
def Obligations.OnlyAnOverrunStopsARun : Prop :=
  ∀ s : State, s.Inv →
    (s.envPoint = .pulse ∧ s.pend = true → step s = .refused .pulseOverrun) ∧
    (¬ (s.envPoint = .pulse ∧ s.pend = true) → ∃ t : State, step s = .next t)

/-- 30_encoding.md sections 4 and 5, with the model's choice of log entry 11. In every state, also
those no run reaches, a step never answers that its operation was not selected or that its word
selects nothing. -/
def Obligations.EveryStateSelectsAnEnabledOperation : Prop :=
  ∀ s : State, step s ≠ .refused .notSelected ∧ step s ≠ .refused .badSelector

/-- 10_state.md section 3 and 42_shift_out.md section 3: in every step the transmit byte changes
only in a TICK or a RESET, and a TICK is the only way out of WAIT; it then stands at the first step
of a frame for the display byte of the registers it has just written. -/
def Obligations.OnlyATickStartsAFrame : Prop :=
  ∀ s t : State, step s = .next t →
    (t.txb ≠ s.txb → nextInstr s = .ok .tick ∨ nextInstr s = .ok .reset) ∧
      (s.seq = .wait → t.seq ≠ .wait → nextInstr s = .ok .tick ∧ t.seq = .sh 0 .a ∧
        t.txb = encodeByte t.hour.toNat t.min.toNat ∧ t.wt = s.wt)

/-- 40_timekeeper.md section 2: a later stage is performed only on the rollover of the stage before
it. In every step but RESET, SEC changes only in a TICK that finds TICK + 1 = F, MIN only when also
SEC + 1 = 60, HOUR only when also MIN + 1 = 60. -/
def Obligations.LaterStagesRunOnlyOnARollover : Prop :=
  ∀ s t : State, step s = .next t → nextInstr s ≠ .ok .reset →
    (t.tick ≠ s.tick → nextInstr s = .ok .tick) ∧
      (t.sec ≠ s.sec → nextInstr s = .ok .tick ∧ s.tick.toNat + 1 = s.cfg.mainsHz) ∧
      (t.min ≠ s.min → nextInstr s = .ok .tick ∧ s.tick.toNat + 1 = s.cfg.mainsHz ∧
        s.sec.toNat + 1 = 60) ∧
      (t.hour ≠ s.hour → nextInstr s = .ok .tick ∧ s.tick.toNat + 1 = s.cfg.mainsHz ∧
        s.sec.toNat + 1 = 60 ∧ s.min.toNat + 1 = 60)

/-- 20_memory.md section 1, a rule the spec derives, with decision D22 for the write trace: in every
step, what its operation does to the three lines and to the record of writes. CLOCK is driven low
by CLK_LOW and high by CLK_HIGH, DATA to the bit of TXB by DATA_SET, LATCH high by LATCH_HIGH and low
by LATCH_LOW, each recorded as that one write and touching no other line; RESET sets all three low
with the record empty again; every other operation leaves lines and record as they are. -/
def Obligations.EachLineIsWrittenByItsOwnSteps : Prop :=
  ∀ (s t : State) (i : Instr), nextInstr s = .ok i → step s = .next t →
    (i = .reset → t.levels = Levels.low ∧ t.wt = [] ∧ t.tt = []) ∧
    (∀ k, i = .clkLow k →
      t.levels = { s.levels with clock := false } ∧ t.wt = s.wt ++ [⟨.clock, false⟩]) ∧
    (∀ k, i = .dataSet k →
      t.levels = { s.levels with data := s.txb.getLsbD k.val } ∧
        t.wt = s.wt ++ [⟨.data, s.txb.getLsbD k.val⟩]) ∧
    (∀ k, i = .clkHigh k →
      t.levels = { s.levels with clock := true } ∧ t.wt = s.wt ++ [⟨.clock, true⟩]) ∧
    (i = .latchHigh →
      t.levels = { s.levels with latch := true } ∧ t.wt = s.wt ++ [⟨.latch, true⟩]) ∧
    (i = .latchLow →
      t.levels = { s.levels with latch := false } ∧ t.wt = s.wt ++ [⟨.latch, false⟩]) ∧
    (i ≠ .reset → (∀ k, i ≠ .clkLow k ∧ i ≠ .dataSet k ∧ i ≠ .clkHigh k) →
      i ≠ .latchHigh → i ≠ .latchLow →
      t.levels = s.levels ∧ t.wt = s.wt ∧ t.tt = s.tt)

/-- 20_memory.md section 3: no operation writes a build parameter or the environment's schedule. -/
def Obligations.NoOperationWritesTheBuild : Prop :=
  ∀ (i : Instr) (s t : State), exec i s = .next t → t.cfg = s.cfg ∧ t.events = s.events

/-- 10_state.md section 7: the block cannot read the shift register, so what that holds changes
nothing else in any step. -/
def Obligations.ShiftRegisterNeverInfluencesTheBlock : Prop :=
  ∀ (s : State) (x y : Byte),
    andThen (step { s with sr := x, q := y }) (fun t => .next t.withoutDevice) =
      andThen (step s) (fun t => .next t.withoutDevice)

/-- 10_state.md section 3: nothing reads the transmit byte while the sequencer waits, so the
unspecified value it holds before the first frame changes nothing but itself. -/
def Obligations.TransmitByteIsNotReadAtRest : Prop :=
  ∀ (s : State) (x : Byte), s.seq = .wait →
    andThen (step { s with txb := x }) (fun t => .next { t with txb := 0 }) =
        andThen (step s) (fun t => .next { t with txb := 0 }) ∧
      ∀ t u : State, step { s with txb := x } = .next t → step s = .next u →
        t.seq ≠ .wait → t.txb = u.txb

/-- 42_shift_out.md section 3, a law the spec derives: one PULSE and the 27 block steps that can
follow it are the big step, from every quiet point, where the model has its big step start (the
model's choice, log entry 32). Where no frame starts, 26 of the 27 are WAITs, which the model counts
as steps (the model's choice, log entry 27). -/
def Obligations.SmallStepsAreTheBigStep : Prop :=
  ∀ s : State, s.quiet → s.events = [.pulse] →
    runSteps 28 s = pulseThenRun { s with events := [] }

/-- 42_shift_out.md section 3, a law the spec derives: from every quiet point in range one PULSE
served to the end completes, leaves the block quiet with the registers of the cascade, and appends
to the write trace either nothing or the one frame for the time just reached, which the shift
register then shows (decisions D12 and D13). That a served PULSE starts at a quiet point is the
model's choice (log entry 32). -/
def Obligations.ServedPulseSendsTheFrameOfItsTime : Prop :=
  ∀ s : State, s.cfg.legal → s.timeOk → s.quiet → s.latch = false →
    ∃ t : State, pulseThenRun s = .next t ∧ t.quiet ∧
      exec .tickInc s =
        .next { s with tick := t.tick, sec := t.sec, min := t.min, hour := t.hour } ∧
      (if s.cfg.refreshPolicy = .everyTick ∨
          (s.tick.toNat + 1 = s.cfg.mainsHz ∧ s.sec.toNat + 1 = 60)
        then t.txb = encodeByte t.hour.toNat t.min.toNat ∧
          t.wt = s.wt ++ frameEvents (encodeByte t.hour.toNat t.min.toNat) ∧
          t.sr = encodeByte t.hour.toNat t.min.toNat ∧ t.q = encodeByte t.hour.toNat t.min.toNat
        else t = { s with tick := t.tick, sec := t.sec, min := t.min, hour := t.hour })

/-- 42_shift_out.md section 3 and 40_timekeeper.md section 5, laws the spec derives: from every
quiet point in range, `n` PULSEs each served to the end complete, leave the block quiet, and leave
the time registers those of the closed form, for either refresh policy and every legal F. The write
trace grows by 26 writes for each frame due: every pulse, or every minute change. That a served
PULSE starts at a quiet point is the model's choice (log entry 32). -/
def Obligations.PulsesKeepTheTime : Prop :=
  ∀ (n : Nat) (s : State), s.cfg.legal → s.timeOk → s.quiet →
    let c := s.tick.toNat + n
    let k1 := c / s.cfg.mainsHz
    let k2 := (s.sec.toNat + k1) / 60
    let k3 := (s.min.toNat + k2) / 60
    ∃ t : State, pulsesThenRun n s = .next t ∧ t.quiet ∧
      t.tick.toNat = c % s.cfg.mainsHz ∧
      t.sec.toNat = (s.sec.toNat + k1) % 60 ∧
      t.min.toNat = (s.min.toNat + k2) % 60 ∧
      t.hour.toNat = (s.hour.toNat - 1 + k3) % 12 + 1 ∧
      t.wt.length = s.wt.length +
        26 * (if s.cfg.refreshPolicy = .everyTick then n else k2)
end

