-- ==== Sys2Proof/Laws/State.lean ====
section
/-! SUPPORT. For each update of the state, what every field holds after it: the field the update
writes, and each field it leaves alone. -/

namespace Sys2Proof.Machine

variable (s : State)

@[simp] theorem State.storeTick_tick (v : Nat) : (s.storeTick v).tick = fitted 6 v s.free := rfl
@[simp] theorem State.storeTick_sec (v : Nat) : (s.storeTick v).sec = s.sec := rfl
@[simp] theorem State.storeTick_min (v : Nat) : (s.storeTick v).min = s.min := rfl
@[simp] theorem State.storeTick_hour (v : Nat) : (s.storeTick v).hour = s.hour := rfl
@[simp] theorem State.storeTick_seq (v : Nat) : (s.storeTick v).seq = s.seq := rfl
@[simp] theorem State.storeTick_txb (v : Nat) : (s.storeTick v).txb = s.txb := rfl
@[simp] theorem State.storeTick_data (v : Nat) : (s.storeTick v).data = s.data := rfl
@[simp] theorem State.storeTick_clock (v : Nat) : (s.storeTick v).clock = s.clock := rfl
@[simp] theorem State.storeTick_latch (v : Nat) : (s.storeTick v).latch = s.latch := rfl
@[simp] theorem State.storeTick_pend (v : Nat) : (s.storeTick v).pend = s.pend := rfl
@[simp] theorem State.storeTick_sr (v : Nat) : (s.storeTick v).sr = s.sr := rfl
@[simp] theorem State.storeTick_q (v : Nat) : (s.storeTick v).q = s.q := rfl
@[simp] theorem State.storeTick_wt (v : Nat) : (s.storeTick v).wt = s.wt := rfl
@[simp] theorem State.storeTick_tt (v : Nat) : (s.storeTick v).tt = s.tt := rfl
@[simp] theorem State.storeTick_cfg (v : Nat) : (s.storeTick v).cfg = s.cfg := rfl
@[simp] theorem State.storeTick_events (v : Nat) : (s.storeTick v).events = s.events := rfl
@[simp] theorem State.storeTick_edge (v : Nat) : (s.storeTick v).edge = s.edge := rfl
@[simp] theorem State.storeTick_result (v : Nat) : (s.storeTick v).result = s.result := rfl
@[simp] theorem State.storeTick_free (v : Nat) :
    (s.storeTick v).free = s.free + overflowUse 6 v := rfl

@[simp] theorem State.storeSec_tick (v : Nat) : (s.storeSec v).tick = s.tick := rfl
@[simp] theorem State.storeSec_sec (v : Nat) : (s.storeSec v).sec = fitted 6 v s.free := rfl
@[simp] theorem State.storeSec_min (v : Nat) : (s.storeSec v).min = s.min := rfl
@[simp] theorem State.storeSec_hour (v : Nat) : (s.storeSec v).hour = s.hour := rfl
@[simp] theorem State.storeSec_seq (v : Nat) : (s.storeSec v).seq = s.seq := rfl
@[simp] theorem State.storeSec_txb (v : Nat) : (s.storeSec v).txb = s.txb := rfl
@[simp] theorem State.storeSec_data (v : Nat) : (s.storeSec v).data = s.data := rfl
@[simp] theorem State.storeSec_clock (v : Nat) : (s.storeSec v).clock = s.clock := rfl
@[simp] theorem State.storeSec_latch (v : Nat) : (s.storeSec v).latch = s.latch := rfl
@[simp] theorem State.storeSec_pend (v : Nat) : (s.storeSec v).pend = s.pend := rfl
@[simp] theorem State.storeSec_sr (v : Nat) : (s.storeSec v).sr = s.sr := rfl
@[simp] theorem State.storeSec_q (v : Nat) : (s.storeSec v).q = s.q := rfl
@[simp] theorem State.storeSec_wt (v : Nat) : (s.storeSec v).wt = s.wt := rfl
@[simp] theorem State.storeSec_tt (v : Nat) : (s.storeSec v).tt = s.tt := rfl
@[simp] theorem State.storeSec_cfg (v : Nat) : (s.storeSec v).cfg = s.cfg := rfl
@[simp] theorem State.storeSec_events (v : Nat) : (s.storeSec v).events = s.events := rfl
@[simp] theorem State.storeSec_edge (v : Nat) : (s.storeSec v).edge = s.edge := rfl
@[simp] theorem State.storeSec_result (v : Nat) : (s.storeSec v).result = s.result := rfl
@[simp] theorem State.storeSec_free (v : Nat) :
    (s.storeSec v).free = s.free + overflowUse 6 v := rfl

@[simp] theorem State.storeMin_tick (v : Nat) : (s.storeMin v).tick = s.tick := rfl
@[simp] theorem State.storeMin_sec (v : Nat) : (s.storeMin v).sec = s.sec := rfl
@[simp] theorem State.storeMin_min (v : Nat) : (s.storeMin v).min = fitted 6 v s.free := rfl
@[simp] theorem State.storeMin_hour (v : Nat) : (s.storeMin v).hour = s.hour := rfl
@[simp] theorem State.storeMin_seq (v : Nat) : (s.storeMin v).seq = s.seq := rfl
@[simp] theorem State.storeMin_txb (v : Nat) : (s.storeMin v).txb = s.txb := rfl
@[simp] theorem State.storeMin_data (v : Nat) : (s.storeMin v).data = s.data := rfl
@[simp] theorem State.storeMin_clock (v : Nat) : (s.storeMin v).clock = s.clock := rfl
@[simp] theorem State.storeMin_latch (v : Nat) : (s.storeMin v).latch = s.latch := rfl
@[simp] theorem State.storeMin_pend (v : Nat) : (s.storeMin v).pend = s.pend := rfl
@[simp] theorem State.storeMin_sr (v : Nat) : (s.storeMin v).sr = s.sr := rfl
@[simp] theorem State.storeMin_q (v : Nat) : (s.storeMin v).q = s.q := rfl
@[simp] theorem State.storeMin_wt (v : Nat) : (s.storeMin v).wt = s.wt := rfl
@[simp] theorem State.storeMin_tt (v : Nat) : (s.storeMin v).tt = s.tt := rfl
@[simp] theorem State.storeMin_cfg (v : Nat) : (s.storeMin v).cfg = s.cfg := rfl
@[simp] theorem State.storeMin_events (v : Nat) : (s.storeMin v).events = s.events := rfl
@[simp] theorem State.storeMin_edge (v : Nat) : (s.storeMin v).edge = s.edge := rfl
@[simp] theorem State.storeMin_result (v : Nat) : (s.storeMin v).result = s.result := rfl
@[simp] theorem State.storeMin_free (v : Nat) :
    (s.storeMin v).free = s.free + overflowUse 6 v := rfl

@[simp] theorem State.storeHour_tick (v : Nat) : (s.storeHour v).tick = s.tick := rfl
@[simp] theorem State.storeHour_sec (v : Nat) : (s.storeHour v).sec = s.sec := rfl
@[simp] theorem State.storeHour_min (v : Nat) : (s.storeHour v).min = s.min := rfl
@[simp] theorem State.storeHour_hour (v : Nat) : (s.storeHour v).hour = fitted 4 v s.free := rfl
@[simp] theorem State.storeHour_seq (v : Nat) : (s.storeHour v).seq = s.seq := rfl
@[simp] theorem State.storeHour_txb (v : Nat) : (s.storeHour v).txb = s.txb := rfl
@[simp] theorem State.storeHour_data (v : Nat) : (s.storeHour v).data = s.data := rfl
@[simp] theorem State.storeHour_clock (v : Nat) : (s.storeHour v).clock = s.clock := rfl
@[simp] theorem State.storeHour_latch (v : Nat) : (s.storeHour v).latch = s.latch := rfl
@[simp] theorem State.storeHour_pend (v : Nat) : (s.storeHour v).pend = s.pend := rfl
@[simp] theorem State.storeHour_sr (v : Nat) : (s.storeHour v).sr = s.sr := rfl
@[simp] theorem State.storeHour_q (v : Nat) : (s.storeHour v).q = s.q := rfl
@[simp] theorem State.storeHour_wt (v : Nat) : (s.storeHour v).wt = s.wt := rfl
@[simp] theorem State.storeHour_tt (v : Nat) : (s.storeHour v).tt = s.tt := rfl
@[simp] theorem State.storeHour_cfg (v : Nat) : (s.storeHour v).cfg = s.cfg := rfl
@[simp] theorem State.storeHour_events (v : Nat) : (s.storeHour v).events = s.events := rfl
@[simp] theorem State.storeHour_edge (v : Nat) : (s.storeHour v).edge = s.edge := rfl
@[simp] theorem State.storeHour_result (v : Nat) : (s.storeHour v).result = s.result := rfl
@[simp] theorem State.storeHour_free (v : Nat) :
    (s.storeHour v).free = s.free + overflowUse 4 v := rfl

@[simp] theorem State.recordWrite_tick (e : WireEvent) : (s.recordWrite e).tick = s.tick := rfl
@[simp] theorem State.recordWrite_sec (e : WireEvent) : (s.recordWrite e).sec = s.sec := rfl
@[simp] theorem State.recordWrite_min (e : WireEvent) : (s.recordWrite e).min = s.min := rfl
@[simp] theorem State.recordWrite_hour (e : WireEvent) : (s.recordWrite e).hour = s.hour := rfl
@[simp] theorem State.recordWrite_seq (e : WireEvent) : (s.recordWrite e).seq = s.seq := rfl
@[simp] theorem State.recordWrite_txb (e : WireEvent) : (s.recordWrite e).txb = s.txb := rfl
@[simp] theorem State.recordWrite_data (e : WireEvent) : (s.recordWrite e).data = s.data := rfl
@[simp] theorem State.recordWrite_clock (e : WireEvent) : (s.recordWrite e).clock = s.clock := rfl
@[simp] theorem State.recordWrite_latch (e : WireEvent) : (s.recordWrite e).latch = s.latch := rfl
@[simp] theorem State.recordWrite_pend (e : WireEvent) : (s.recordWrite e).pend = s.pend := rfl
@[simp] theorem State.recordWrite_sr (e : WireEvent) : (s.recordWrite e).sr = s.sr := rfl
@[simp] theorem State.recordWrite_q (e : WireEvent) : (s.recordWrite e).q = s.q := rfl
@[simp] theorem State.recordWrite_wt (e : WireEvent) : (s.recordWrite e).wt = s.wt ++ [e] := rfl
@[simp] theorem State.recordWrite_tt (e : WireEvent) : (s.recordWrite e).tt = s.tt := rfl
@[simp] theorem State.recordWrite_cfg (e : WireEvent) : (s.recordWrite e).cfg = s.cfg := rfl
@[simp] theorem State.recordWrite_events (e : WireEvent) :
    (s.recordWrite e).events = s.events := rfl
@[simp] theorem State.recordWrite_edge (e : WireEvent) : (s.recordWrite e).edge = s.edge := rfl
@[simp] theorem State.recordWrite_result (e : WireEvent) :
    (s.recordWrite e).result = s.result := rfl
@[simp] theorem State.recordWrite_free (e : WireEvent) : (s.recordWrite e).free = s.free := rfl

@[simp] theorem State.recordChange_tick (e : WireEvent) : (s.recordChange e).tick = s.tick := rfl
@[simp] theorem State.recordChange_sec (e : WireEvent) : (s.recordChange e).sec = s.sec := rfl
@[simp] theorem State.recordChange_min (e : WireEvent) : (s.recordChange e).min = s.min := rfl
@[simp] theorem State.recordChange_hour (e : WireEvent) : (s.recordChange e).hour = s.hour := rfl
@[simp] theorem State.recordChange_seq (e : WireEvent) : (s.recordChange e).seq = s.seq := rfl
@[simp] theorem State.recordChange_txb (e : WireEvent) : (s.recordChange e).txb = s.txb := rfl
@[simp] theorem State.recordChange_data (e : WireEvent) : (s.recordChange e).data = s.data := rfl
@[simp] theorem State.recordChange_clock (e : WireEvent) : (s.recordChange e).clock = s.clock := rfl
@[simp] theorem State.recordChange_latch (e : WireEvent) : (s.recordChange e).latch = s.latch := rfl
@[simp] theorem State.recordChange_pend (e : WireEvent) : (s.recordChange e).pend = s.pend := rfl
@[simp] theorem State.recordChange_sr (e : WireEvent) : (s.recordChange e).sr = s.sr := rfl
@[simp] theorem State.recordChange_q (e : WireEvent) : (s.recordChange e).q = s.q := rfl
@[simp] theorem State.recordChange_wt (e : WireEvent) : (s.recordChange e).wt = s.wt := rfl
@[simp] theorem State.recordChange_tt (e : WireEvent) : (s.recordChange e).tt = s.tt ++ [e] := rfl
@[simp] theorem State.recordChange_cfg (e : WireEvent) : (s.recordChange e).cfg = s.cfg := rfl
@[simp] theorem State.recordChange_events (e : WireEvent) :
    (s.recordChange e).events = s.events := rfl
@[simp] theorem State.recordChange_edge (e : WireEvent) : (s.recordChange e).edge = s.edge := rfl
@[simp] theorem State.recordChange_result (e : WireEvent) :
    (s.recordChange e).result = s.result := rfl
@[simp] theorem State.recordChange_free (e : WireEvent) : (s.recordChange e).free = s.free := rfl

@[simp] theorem State.shiftIn_tick : (s.shiftIn).tick = s.tick := rfl
@[simp] theorem State.shiftIn_sec : (s.shiftIn).sec = s.sec := rfl
@[simp] theorem State.shiftIn_min : (s.shiftIn).min = s.min := rfl
@[simp] theorem State.shiftIn_hour : (s.shiftIn).hour = s.hour := rfl
@[simp] theorem State.shiftIn_seq : (s.shiftIn).seq = s.seq := rfl
@[simp] theorem State.shiftIn_txb : (s.shiftIn).txb = s.txb := rfl
@[simp] theorem State.shiftIn_data : (s.shiftIn).data = s.data := rfl
@[simp] theorem State.shiftIn_clock : (s.shiftIn).clock = s.clock := rfl
@[simp] theorem State.shiftIn_latch : (s.shiftIn).latch = s.latch := rfl
@[simp] theorem State.shiftIn_pend : (s.shiftIn).pend = s.pend := rfl
@[simp] theorem State.shiftIn_sr :
    (s.shiftIn).sr = (BitVec.ofBool s.data ++ s.sr.extractLsb' 1 7 : BitVec (1 + 7)) := rfl
@[simp] theorem State.shiftIn_q : (s.shiftIn).q = s.q := rfl
@[simp] theorem State.shiftIn_wt : (s.shiftIn).wt = s.wt := rfl
@[simp] theorem State.shiftIn_tt : (s.shiftIn).tt = s.tt := rfl
@[simp] theorem State.shiftIn_cfg : (s.shiftIn).cfg = s.cfg := rfl
@[simp] theorem State.shiftIn_events : (s.shiftIn).events = s.events := rfl
@[simp] theorem State.shiftIn_edge : (s.shiftIn).edge = s.edge := rfl
@[simp] theorem State.shiftIn_result : (s.shiftIn).result = s.result := rfl
@[simp] theorem State.shiftIn_free : (s.shiftIn).free = s.free := rfl

@[simp] theorem State.copyOut_tick : (s.copyOut).tick = s.tick := rfl
@[simp] theorem State.copyOut_sec : (s.copyOut).sec = s.sec := rfl
@[simp] theorem State.copyOut_min : (s.copyOut).min = s.min := rfl
@[simp] theorem State.copyOut_hour : (s.copyOut).hour = s.hour := rfl
@[simp] theorem State.copyOut_seq : (s.copyOut).seq = s.seq := rfl
@[simp] theorem State.copyOut_txb : (s.copyOut).txb = s.txb := rfl
@[simp] theorem State.copyOut_data : (s.copyOut).data = s.data := rfl
@[simp] theorem State.copyOut_clock : (s.copyOut).clock = s.clock := rfl
@[simp] theorem State.copyOut_latch : (s.copyOut).latch = s.latch := rfl
@[simp] theorem State.copyOut_pend : (s.copyOut).pend = s.pend := rfl
@[simp] theorem State.copyOut_sr : (s.copyOut).sr = s.sr := rfl
@[simp] theorem State.copyOut_q : (s.copyOut).q = s.sr := rfl
@[simp] theorem State.copyOut_wt : (s.copyOut).wt = s.wt := rfl
@[simp] theorem State.copyOut_tt : (s.copyOut).tt = s.tt := rfl
@[simp] theorem State.copyOut_cfg : (s.copyOut).cfg = s.cfg := rfl
@[simp] theorem State.copyOut_events : (s.copyOut).events = s.events := rfl
@[simp] theorem State.copyOut_edge : (s.copyOut).edge = s.edge := rfl
@[simp] theorem State.copyOut_result : (s.copyOut).result = s.result := rfl
@[simp] theorem State.copyOut_free : (s.copyOut).free = s.free := rfl

@[simp] theorem State.takeInterrupt_tick : (s.takeInterrupt).tick = s.tick := rfl
@[simp] theorem State.takeInterrupt_sec : (s.takeInterrupt).sec = s.sec := rfl
@[simp] theorem State.takeInterrupt_min : (s.takeInterrupt).min = s.min := rfl
@[simp] theorem State.takeInterrupt_hour : (s.takeInterrupt).hour = s.hour := rfl
@[simp] theorem State.takeInterrupt_seq : (s.takeInterrupt).seq = s.seq := rfl
@[simp] theorem State.takeInterrupt_txb : (s.takeInterrupt).txb = s.txb := rfl
@[simp] theorem State.takeInterrupt_data : (s.takeInterrupt).data = s.data := rfl
@[simp] theorem State.takeInterrupt_clock : (s.takeInterrupt).clock = s.clock := rfl
@[simp] theorem State.takeInterrupt_latch : (s.takeInterrupt).latch = s.latch := rfl
@[simp] theorem State.takeInterrupt_pend : (s.takeInterrupt).pend = false := rfl
@[simp] theorem State.takeInterrupt_sr : (s.takeInterrupt).sr = s.sr := rfl
@[simp] theorem State.takeInterrupt_q : (s.takeInterrupt).q = s.q := rfl
@[simp] theorem State.takeInterrupt_wt : (s.takeInterrupt).wt = s.wt := rfl
@[simp] theorem State.takeInterrupt_tt : (s.takeInterrupt).tt = s.tt := rfl
@[simp] theorem State.takeInterrupt_cfg : (s.takeInterrupt).cfg = s.cfg := rfl
@[simp] theorem State.takeInterrupt_events : (s.takeInterrupt).events = s.events := rfl
@[simp] theorem State.takeInterrupt_edge : (s.takeInterrupt).edge = s.edge := rfl
@[simp] theorem State.takeInterrupt_result : (s.takeInterrupt).result = s.result := rfl
@[simp] theorem State.takeInterrupt_free : (s.takeInterrupt).free = s.free := rfl

@[simp] theorem State.returnFromInterrupt_tick : (s.returnFromInterrupt).tick = s.tick := rfl
@[simp] theorem State.returnFromInterrupt_sec : (s.returnFromInterrupt).sec = s.sec := rfl
@[simp] theorem State.returnFromInterrupt_min : (s.returnFromInterrupt).min = s.min := rfl
@[simp] theorem State.returnFromInterrupt_hour : (s.returnFromInterrupt).hour = s.hour := rfl
@[simp] theorem State.returnFromInterrupt_seq : (s.returnFromInterrupt).seq = .wait := rfl
@[simp] theorem State.returnFromInterrupt_txb : (s.returnFromInterrupt).txb = s.txb := rfl
@[simp] theorem State.returnFromInterrupt_data : (s.returnFromInterrupt).data = s.data := rfl
@[simp] theorem State.returnFromInterrupt_clock : (s.returnFromInterrupt).clock = s.clock := rfl
@[simp] theorem State.returnFromInterrupt_latch : (s.returnFromInterrupt).latch = s.latch := rfl
@[simp] theorem State.returnFromInterrupt_pend : (s.returnFromInterrupt).pend = s.pend := rfl
@[simp] theorem State.returnFromInterrupt_sr : (s.returnFromInterrupt).sr = s.sr := rfl
@[simp] theorem State.returnFromInterrupt_q : (s.returnFromInterrupt).q = s.q := rfl
@[simp] theorem State.returnFromInterrupt_wt : (s.returnFromInterrupt).wt = s.wt := rfl
@[simp] theorem State.returnFromInterrupt_tt : (s.returnFromInterrupt).tt = s.tt := rfl
@[simp] theorem State.returnFromInterrupt_cfg : (s.returnFromInterrupt).cfg = s.cfg := rfl
@[simp] theorem State.returnFromInterrupt_events : (s.returnFromInterrupt).events = s.events := rfl
@[simp] theorem State.returnFromInterrupt_edge : (s.returnFromInterrupt).edge = s.edge := rfl
@[simp] theorem State.returnFromInterrupt_result : (s.returnFromInterrupt).result = s.result := rfl
@[simp] theorem State.returnFromInterrupt_free : (s.returnFromInterrupt).free = s.free := rfl

@[simp] theorem State.goTo_tick (x : Seq) : (s.goTo x).tick = s.tick := rfl
@[simp] theorem State.goTo_sec (x : Seq) : (s.goTo x).sec = s.sec := rfl
@[simp] theorem State.goTo_min (x : Seq) : (s.goTo x).min = s.min := rfl
@[simp] theorem State.goTo_hour (x : Seq) : (s.goTo x).hour = s.hour := rfl
@[simp] theorem State.goTo_seq (x : Seq) : (s.goTo x).seq = x := rfl
@[simp] theorem State.goTo_txb (x : Seq) : (s.goTo x).txb = s.txb := rfl
@[simp] theorem State.goTo_data (x : Seq) : (s.goTo x).data = s.data := rfl
@[simp] theorem State.goTo_clock (x : Seq) : (s.goTo x).clock = s.clock := rfl
@[simp] theorem State.goTo_latch (x : Seq) : (s.goTo x).latch = s.latch := rfl
@[simp] theorem State.goTo_pend (x : Seq) : (s.goTo x).pend = s.pend := rfl
@[simp] theorem State.goTo_sr (x : Seq) : (s.goTo x).sr = s.sr := rfl
@[simp] theorem State.goTo_q (x : Seq) : (s.goTo x).q = s.q := rfl
@[simp] theorem State.goTo_wt (x : Seq) : (s.goTo x).wt = s.wt := rfl
@[simp] theorem State.goTo_tt (x : Seq) : (s.goTo x).tt = s.tt := rfl
@[simp] theorem State.goTo_cfg (x : Seq) : (s.goTo x).cfg = s.cfg := rfl
@[simp] theorem State.goTo_events (x : Seq) : (s.goTo x).events = s.events := rfl
@[simp] theorem State.goTo_edge (x : Seq) : (s.goTo x).edge = s.edge := rfl
@[simp] theorem State.goTo_result (x : Seq) : (s.goTo x).result = s.result := rfl
@[simp] theorem State.goTo_free (x : Seq) : (s.goTo x).free = s.free := rfl

@[simp] theorem State.startFrame_tick (b : Byte) : (s.startFrame b).tick = s.tick := rfl
@[simp] theorem State.startFrame_sec (b : Byte) : (s.startFrame b).sec = s.sec := rfl
@[simp] theorem State.startFrame_min (b : Byte) : (s.startFrame b).min = s.min := rfl
@[simp] theorem State.startFrame_hour (b : Byte) : (s.startFrame b).hour = s.hour := rfl
@[simp] theorem State.startFrame_seq (b : Byte) : (s.startFrame b).seq = .sh 0 .a := rfl
@[simp] theorem State.startFrame_txb (b : Byte) : (s.startFrame b).txb = b := rfl
@[simp] theorem State.startFrame_data (b : Byte) : (s.startFrame b).data = s.data := rfl
@[simp] theorem State.startFrame_clock (b : Byte) : (s.startFrame b).clock = s.clock := rfl
@[simp] theorem State.startFrame_latch (b : Byte) : (s.startFrame b).latch = s.latch := rfl
@[simp] theorem State.startFrame_pend (b : Byte) : (s.startFrame b).pend = s.pend := rfl
@[simp] theorem State.startFrame_sr (b : Byte) : (s.startFrame b).sr = s.sr := rfl
@[simp] theorem State.startFrame_q (b : Byte) : (s.startFrame b).q = s.q := rfl
@[simp] theorem State.startFrame_wt (b : Byte) : (s.startFrame b).wt = s.wt := rfl
@[simp] theorem State.startFrame_tt (b : Byte) : (s.startFrame b).tt = s.tt := rfl
@[simp] theorem State.startFrame_cfg (b : Byte) : (s.startFrame b).cfg = s.cfg := rfl
@[simp] theorem State.startFrame_events (b : Byte) : (s.startFrame b).events = s.events := rfl
@[simp] theorem State.startFrame_edge (b : Byte) : (s.startFrame b).edge = s.edge := rfl
@[simp] theorem State.startFrame_result (b : Byte) : (s.startFrame b).result = s.result := rfl
@[simp] theorem State.startFrame_free (b : Byte) : (s.startFrame b).free = s.free := rfl

@[simp] theorem State.popEvent_tick : (s.popEvent).tick = s.tick := rfl
@[simp] theorem State.popEvent_sec : (s.popEvent).sec = s.sec := rfl
@[simp] theorem State.popEvent_min : (s.popEvent).min = s.min := rfl
@[simp] theorem State.popEvent_hour : (s.popEvent).hour = s.hour := rfl
@[simp] theorem State.popEvent_seq : (s.popEvent).seq = s.seq := rfl
@[simp] theorem State.popEvent_txb : (s.popEvent).txb = s.txb := rfl
@[simp] theorem State.popEvent_data : (s.popEvent).data = s.data := rfl
@[simp] theorem State.popEvent_clock : (s.popEvent).clock = s.clock := rfl
@[simp] theorem State.popEvent_latch : (s.popEvent).latch = s.latch := rfl
@[simp] theorem State.popEvent_pend : (s.popEvent).pend = s.pend := rfl
@[simp] theorem State.popEvent_sr : (s.popEvent).sr = s.sr := rfl
@[simp] theorem State.popEvent_q : (s.popEvent).q = s.q := rfl
@[simp] theorem State.popEvent_wt : (s.popEvent).wt = s.wt := rfl
@[simp] theorem State.popEvent_tt : (s.popEvent).tt = s.tt := rfl
@[simp] theorem State.popEvent_cfg : (s.popEvent).cfg = s.cfg := rfl
@[simp] theorem State.popEvent_events : (s.popEvent).events = s.events.tail := rfl
@[simp] theorem State.popEvent_edge : (s.popEvent).edge = s.edge := rfl
@[simp] theorem State.popEvent_result : (s.popEvent).result = s.result := rfl
@[simp] theorem State.popEvent_free : (s.popEvent).free = s.free := rfl

@[simp] theorem State.returnValue_tick (b : Byte) : (s.returnValue b).tick = s.tick := rfl
@[simp] theorem State.returnValue_sec (b : Byte) : (s.returnValue b).sec = s.sec := rfl
@[simp] theorem State.returnValue_min (b : Byte) : (s.returnValue b).min = s.min := rfl
@[simp] theorem State.returnValue_hour (b : Byte) : (s.returnValue b).hour = s.hour := rfl
@[simp] theorem State.returnValue_seq (b : Byte) : (s.returnValue b).seq = s.seq := rfl
@[simp] theorem State.returnValue_txb (b : Byte) : (s.returnValue b).txb = s.txb := rfl
@[simp] theorem State.returnValue_data (b : Byte) : (s.returnValue b).data = s.data := rfl
@[simp] theorem State.returnValue_clock (b : Byte) : (s.returnValue b).clock = s.clock := rfl
@[simp] theorem State.returnValue_latch (b : Byte) : (s.returnValue b).latch = s.latch := rfl
@[simp] theorem State.returnValue_pend (b : Byte) : (s.returnValue b).pend = s.pend := rfl
@[simp] theorem State.returnValue_sr (b : Byte) : (s.returnValue b).sr = s.sr := rfl
@[simp] theorem State.returnValue_q (b : Byte) : (s.returnValue b).q = s.q := rfl
@[simp] theorem State.returnValue_wt (b : Byte) : (s.returnValue b).wt = s.wt := rfl
@[simp] theorem State.returnValue_tt (b : Byte) : (s.returnValue b).tt = s.tt := rfl
@[simp] theorem State.returnValue_cfg (b : Byte) : (s.returnValue b).cfg = s.cfg := rfl
@[simp] theorem State.returnValue_events (b : Byte) : (s.returnValue b).events = s.events := rfl
@[simp] theorem State.returnValue_edge (b : Byte) : (s.returnValue b).edge = s.edge := rfl
@[simp] theorem State.returnValue_result (b : Byte) : (s.returnValue b).result = b := rfl
@[simp] theorem State.returnValue_free (b : Byte) : (s.returnValue b).free = s.free := rfl

@[simp] theorem State.returnFree_tick (w : Nat) : (s.returnFree w).tick = s.tick := rfl
@[simp] theorem State.returnFree_sec (w : Nat) : (s.returnFree w).sec = s.sec := rfl
@[simp] theorem State.returnFree_min (w : Nat) : (s.returnFree w).min = s.min := rfl
@[simp] theorem State.returnFree_hour (w : Nat) : (s.returnFree w).hour = s.hour := rfl
@[simp] theorem State.returnFree_seq (w : Nat) : (s.returnFree w).seq = s.seq := rfl
@[simp] theorem State.returnFree_txb (w : Nat) : (s.returnFree w).txb = s.txb := rfl
@[simp] theorem State.returnFree_data (w : Nat) : (s.returnFree w).data = s.data := rfl
@[simp] theorem State.returnFree_clock (w : Nat) : (s.returnFree w).clock = s.clock := rfl
@[simp] theorem State.returnFree_latch (w : Nat) : (s.returnFree w).latch = s.latch := rfl
@[simp] theorem State.returnFree_pend (w : Nat) : (s.returnFree w).pend = s.pend := rfl
@[simp] theorem State.returnFree_sr (w : Nat) : (s.returnFree w).sr = s.sr := rfl
@[simp] theorem State.returnFree_q (w : Nat) : (s.returnFree w).q = s.q := rfl
@[simp] theorem State.returnFree_wt (w : Nat) : (s.returnFree w).wt = s.wt := rfl
@[simp] theorem State.returnFree_tt (w : Nat) : (s.returnFree w).tt = s.tt := rfl
@[simp] theorem State.returnFree_cfg (w : Nat) : (s.returnFree w).cfg = s.cfg := rfl
@[simp] theorem State.returnFree_events (w : Nat) : (s.returnFree w).events = s.events := rfl
@[simp] theorem State.returnFree_edge (w : Nat) : (s.returnFree w).edge = s.edge := rfl
@[simp] theorem State.returnFree_result (w : Nat) :
    (s.returnFree w).result = (Config.freeValue w s.free).setWidth 8 := rfl
@[simp] theorem State.returnFree_free (w : Nat) : (s.returnFree w).free = s.free + 1 := rfl

end Sys2Proof.Machine
end

