-- ==== Sys2Proof/Laws/Drive.lean ====
section
/-! SUPPORT. What `Drive` does to every field (rule R17), so that no later proof unfolds it: one
lemma for each line and level with all it does, and the fields no drive touches. -/

namespace Sys2Proof.Machine

variable (s : State)

/-- `Drive(CLOCK, 0)`: recorded, a transition when the clock was high, no reaction (rule R211). -/
theorem State.drive_clock_low :
    s.drive .clock false =
      { s with
        clock := false
        wt := s.wt ++ [⟨.clock, false⟩]
        tt := if s.clock then s.tt ++ [⟨.clock, false⟩] else s.tt } := by
  cases s with
  | mk _ _ _ _ _ _ _ clock => cases clock <;> rfl

/-- `Drive(CLOCK, 1)`: recorded, and on a rising edge the shift stages take DATA (rule R211). -/
theorem State.drive_clock_high :
    s.drive .clock true =
      { s with
        clock := true
        wt := s.wt ++ [⟨.clock, true⟩]
        tt := if s.clock then s.tt else s.tt ++ [⟨.clock, true⟩]
        sr := if s.clock then s.sr else s.shiftIn.sr } := by
  cases s with
  | mk _ _ _ _ _ _ _ clock => cases clock <;> rfl

/-- `Drive(DATA, v)`: recorded, a transition when the level changes, no reaction (rule R211). -/
theorem State.drive_data (v : Bool) :
    s.drive .data v =
      { s with
        data := v
        wt := s.wt ++ [⟨.data, v⟩]
        tt := if s.data = v then s.tt else s.tt ++ [⟨.data, v⟩] } := by
  cases s with
  | mk _ _ _ _ _ _ data => cases data <;> cases v <;> rfl

/-- `Drive(LATCH, 1)`: recorded, and on a rising edge the outputs take the shift stages
(rule R212). -/
theorem State.drive_latch_high :
    s.drive .latch true =
      { s with
        latch := true
        wt := s.wt ++ [⟨.latch, true⟩]
        tt := if s.latch then s.tt else s.tt ++ [⟨.latch, true⟩]
        q := if s.latch then s.q else s.sr } := by
  cases s with
  | mk _ _ _ _ _ _ _ _ latch => cases latch <;> rfl

/-- `Drive(LATCH, 0)`: recorded, a transition when the latch was high, no reaction (rule R212). -/
theorem State.drive_latch_low :
    s.drive .latch false =
      { s with
        latch := false
        wt := s.wt ++ [⟨.latch, false⟩]
        tt := if s.latch then s.tt ++ [⟨.latch, false⟩] else s.tt } := by
  cases s with
  | mk _ _ _ _ _ _ _ _ latch => cases latch <;> rfl

/-- The bit that enters the shift stages enters at position 7 and the others move one down
(rule R211). -/
theorem State.shiftIn_bit (k : Nat) :
    s.shiftIn.sr.getLsbD k = if k < 7 then s.sr.getLsbD (k + 1) else decide (k = 7) && s.data := by
  simp only [State.shiftIn_sr, BitVec.getLsbD_append, BitVec.getLsbD_extractLsb']
  by_cases h : k < 7
  · simp [h, Nat.add_comm]
  · by_cases h7 : k = 7
    · subst h7; simp
    · have : k - 7 ≠ 0 := by omega
      simp [h, h7, this]

variable (L : Line) (v : Bool)

/-- The level of the driven line afterwards, and of every other line (rule R30). -/
theorem State.drive_level (M : Line) :
    (s.drive L v).level M = if M = L then v else s.level M := by
  cases L <;> cases M <;> cases v <;>
    simp [State.drive_clock_low, State.drive_clock_high, State.drive_data,
      State.drive_latch_high, State.drive_latch_low, State.level]

/-- Every drive is recorded in WT (rule R17). -/
@[simp] theorem State.drive_wt : (s.drive L v).wt = s.wt ++ [⟨L, v⟩] := by
  cases L <;> cases v <;>
    simp [State.drive_clock_low, State.drive_clock_high, State.drive_data,
      State.drive_latch_high, State.drive_latch_low]

/-- A drive is recorded in TT exactly when it changes the level (rule R17). -/
theorem State.drive_tt :
    (s.drive L v).tt = if s.level L = v then s.tt else s.tt ++ [⟨L, v⟩] := by
  by_cases h : s.level L = v <;> cases L <;> cases v <;>
    simp_all [State.drive_clock_low, State.drive_clock_high, State.drive_data,
      State.drive_latch_high, State.drive_latch_low, State.level]

/-- What a drive never touches: the time, the sequencer, the transmit byte, the pending latch and
the model's own fields (rule R52). -/
theorem State.drive_frame :
    s.drive L v = { s with
      data := (s.drive L v).data, clock := (s.drive L v).clock, latch := (s.drive L v).latch,
      sr := (s.drive L v).sr, q := (s.drive L v).q, wt := (s.drive L v).wt,
      tt := (s.drive L v).tt } := by
  cases L <;> cases v <;>
    simp only [State.drive_clock_low, State.drive_clock_high, State.drive_data,
      State.drive_latch_high, State.drive_latch_low]

@[simp] theorem State.drive_tick : (s.drive L v).tick = s.tick := by rw [State.drive_frame]
@[simp] theorem State.drive_sec : (s.drive L v).sec = s.sec := by rw [State.drive_frame]
@[simp] theorem State.drive_min : (s.drive L v).min = s.min := by rw [State.drive_frame]
@[simp] theorem State.drive_hour : (s.drive L v).hour = s.hour := by rw [State.drive_frame]
@[simp] theorem State.drive_seq : (s.drive L v).seq = s.seq := by rw [State.drive_frame]
@[simp] theorem State.drive_txb : (s.drive L v).txb = s.txb := by rw [State.drive_frame]
@[simp] theorem State.drive_pend : (s.drive L v).pend = s.pend := by rw [State.drive_frame]
@[simp] theorem State.drive_cfg : (s.drive L v).cfg = s.cfg := by rw [State.drive_frame]
@[simp] theorem State.drive_events : (s.drive L v).events = s.events := by rw [State.drive_frame]
@[simp] theorem State.drive_edge : (s.drive L v).edge = s.edge := by rw [State.drive_frame]
@[simp] theorem State.drive_result : (s.drive L v).result = s.result := by rw [State.drive_frame]
@[simp] theorem State.drive_free : (s.drive L v).free = s.free := by rw [State.drive_frame]

end Sys2Proof.Machine
end

