-- ==== Sys2Proof/Laws/PerInstr.lean ====
section
/-! SUPPORT. A fact about each operation as syntax: an operation the encoder has a word for is
well-formed. One lemma for each constructor. -/

namespace Sys2Proof.Laws.EncodableIsWellFormed

/-- An operation with a word of its own has operands in range (rules R76, R78). -/
def Statement (i : Instr) : Prop := (encode i).isSome = true → i.wf = true

theorem reset : Statement (.reset) := fun _ => rfl
theorem pulse : Statement (.pulse) := fun _ => rfl
theorem tick : Statement (.tick) := fun _ => rfl
theorem tickInc : Statement (.tickInc) := fun h => nomatch h
theorem secInc : Statement (.secInc) := fun h => nomatch h
theorem minInc : Statement (.minInc) := fun h => nomatch h
theorem hourInc : Statement (.hourInc) := fun h => nomatch h
theorem wait : Statement (.wait) := fun _ => rfl
theorem encode (hours minutes : Nat) : Statement (.encode hours minutes) := fun h => nomatch h
theorem tens (minutes : Nat) : Statement (.tens minutes) := fun h => nomatch h
theorem five (minutes : Nat) : Statement (.five minutes) := fun h => nomatch h
theorem refresh (hours minutes : Nat) : Statement (.refresh hours minutes) := fun h => nomatch h
theorem shiftOut (b : Byte) : Statement (.shiftOut b) := fun h => nomatch h
theorem shiftBit (i : BitIndex) : Statement (.shiftBit i) := fun h => nomatch h
theorem clkLow (i : BitIndex) : Statement (.clkLow i) := fun _ => rfl
theorem dataSet (i : BitIndex) : Statement (.dataSet i) := fun _ => rfl
theorem clkHigh (i : BitIndex) : Statement (.clkHigh i) := fun _ => rfl
theorem latchPulse : Statement (.latchPulse) := fun h => nomatch h
theorem latchHigh : Statement (.latchHigh) := fun _ => rfl
theorem latchLow : Statement (.latchLow) := fun _ => rfl
theorem srShift : Statement (.srShift) := fun _ => rfl
theorem srLatch : Statement (.srLatch) := fun _ => rfl

end Sys2Proof.Laws.EncodableIsWellFormed
end

