-- ==== Sys2Proof/Laws/Select.lean ====
section
/-! SUPPORT. Which operation each state selects, once: the code of every environment point and
sequencer state decodes to the row the table gives (rules R76, R77, R172). -/

namespace Sys2Proof.Machine

/-- The operation at each sequencer state when no event comes (the table of rule R172). -/
def Seq.instr : Seq → Bool → Instr
  | .wait, true => .tick
  | .wait, false => .wait
  | .sh i .a, _ => .clkLow i
  | .sh i .b, _ => .dataSet i
  | .sh i .c, _ => .clkHigh i
  | .lt .hi, _ => .latchHigh
  | .lt .lo, _ => .latchLow

/-- The operation at each point of a run (rule R77). -/
def EnvPoint.instr (e : EnvPoint) (q : Seq) (p : Bool) : Instr :=
  match e with
  | .quiet => q.instr p
  | .pulse => .pulse
  | .reset => .reset
  | .resetAndPulse => .reset

/-- The reaction of the shift register to an edge (rules R211, R212). -/
@[simp] def DeviceEdge.instr : DeviceEdge → Instr
  | .clockRise => .srShift
  | .latchRise => .srLatch

/-- Every selector word a state can have decodes to the operation of rule R77. -/
theorem decodeSelector_codes (e : EnvPoint) (q : Seq) (p : Bool) :
    decodeSelector (e.code ++ BitVec.ofBool p ++ q.code) = .ok (e.instr q p) := by
  cases e <;> cases p <;> cases q with
  | wait => rfl
  | sh i x => fin_cases i <;> cases x <;> rfl
  | lt x => cases x <;> rfl

variable (s : State)

/-- Without an edge before the shift register a step performs the operation of rule R77. -/
theorem nextInstr_of_no_edge (h : s.edge = none) :
    nextInstr s = .ok (s.envPoint.instr s.seq s.pend) := by
  simp only [nextInstr, fetched, h, decode, selectorWord]
  exact decodeSelector_codes s.envPoint s.seq s.pend

/-- With an edge before it, the shift register's reaction (rules R211, R212). -/
theorem nextInstr_of_edge (d : DeviceEdge) (h : s.edge = some d) :
    nextInstr s = .ok d.instr := by
  cases d <;> simp only [nextInstr, fetched, h, decode] <;> rfl

/-- A step without an edge: the operation of rule R77, the environment's point used up. -/
theorem step_of_no_edge (h : s.edge = none) :
    step s = exec (s.envPoint.instr s.seq s.pend) s.popEvent := by
  simp only [step, nextInstr_of_no_edge s h, afterFetch, h]

/-- A step with an edge: the reaction. -/
theorem step_of_edge (d : DeviceEdge) (h : s.edge = some d) :
    step s = exec d.instr s := by
  simp only [step, nextInstr_of_edge s d h, afterFetch, h]

/-- The seven-bit codes of the sequencer states are read back, so they are different. -/
theorem seqOfCode_code (q : Seq) : seqOfCode q.code = some q := by
  cases q with
  | wait => rfl
  | sh i x => fin_cases i <;> cases x <;> rfl
  | lt x => cases x <;> rfl

end Sys2Proof.Machine
end

