-- ==== Sys2Proof/Laws/Timekeeper.lean ====
section
/-! SUPPORT. What each stage of the cascade does, once: the fields it can write, the flag it
returns, and its values in range (rules R102 to R107). -/

namespace Sys2Proof.Machine

/-- A value that fits is stored exactly. -/
theorem fitted_of_lt {w v : Nat} (h : v < 2 ^ w) (n : Nat) : fitted w v n = BitVec.ofNat w v := by
  simp [fitted, h]

/-- A value that fits uses no free value. -/
theorem overflowUse_of_lt {w v : Nat} (h : v < 2 ^ w) : overflowUse w v = 0 := by
  simp [overflowUse, h]

/-- The check of ENCODE's domain says what rule R130 says. -/
@[simp] theorem encodeDomain_iff (h m : Nat) :
    encodeDomain h m = true ↔ (1 ≤ h ∧ h ≤ 12) ∧ m ≤ 59 := by
  simp [encodeDomain, minutesInDomain]

variable (s : State)

/-! Each stage writes only its own register and those of the stages within it (rules R102 to R105). -/

@[simp] theorem hourStage_tick : (hourStage s).tick = s.tick := by
  unfold hourStage; split <;> rfl
@[simp] theorem hourStage_sec : (hourStage s).sec = s.sec := by
  unfold hourStage; split <;> rfl
@[simp] theorem hourStage_min : (hourStage s).min = s.min := by
  unfold hourStage; split <;> rfl
@[simp] theorem hourStage_seq : (hourStage s).seq = s.seq := by
  unfold hourStage; split <;> rfl
@[simp] theorem hourStage_txb : (hourStage s).txb = s.txb := by
  unfold hourStage; split <;> rfl
@[simp] theorem hourStage_data : (hourStage s).data = s.data := by
  unfold hourStage; split <;> rfl
@[simp] theorem hourStage_clock : (hourStage s).clock = s.clock := by
  unfold hourStage; split <;> rfl
@[simp] theorem hourStage_latch : (hourStage s).latch = s.latch := by
  unfold hourStage; split <;> rfl
@[simp] theorem hourStage_pend : (hourStage s).pend = s.pend := by
  unfold hourStage; split <;> rfl
@[simp] theorem hourStage_sr : (hourStage s).sr = s.sr := by
  unfold hourStage; split <;> rfl
@[simp] theorem hourStage_q : (hourStage s).q = s.q := by
  unfold hourStage; split <;> rfl
@[simp] theorem hourStage_wt : (hourStage s).wt = s.wt := by
  unfold hourStage; split <;> rfl
@[simp] theorem hourStage_tt : (hourStage s).tt = s.tt := by
  unfold hourStage; split <;> rfl
@[simp] theorem hourStage_cfg : (hourStage s).cfg = s.cfg := by
  unfold hourStage; split <;> rfl
@[simp] theorem hourStage_events : (hourStage s).events = s.events := by
  unfold hourStage; split <;> rfl
@[simp] theorem hourStage_edge : (hourStage s).edge = s.edge := by
  unfold hourStage; split <;> rfl
@[simp] theorem hourStage_result : (hourStage s).result = s.result := by
  unfold hourStage; split <;> rfl

@[simp] theorem minStage_tick : (minStage s).tick = s.tick := by
  unfold minStage; split <;> simp
@[simp] theorem minStage_sec : (minStage s).sec = s.sec := by
  unfold minStage; split <;> simp
@[simp] theorem minStage_seq : (minStage s).seq = s.seq := by
  unfold minStage; split <;> simp
@[simp] theorem minStage_txb : (minStage s).txb = s.txb := by
  unfold minStage; split <;> simp
@[simp] theorem minStage_data : (minStage s).data = s.data := by
  unfold minStage; split <;> simp
@[simp] theorem minStage_clock : (minStage s).clock = s.clock := by
  unfold minStage; split <;> simp
@[simp] theorem minStage_latch : (minStage s).latch = s.latch := by
  unfold minStage; split <;> simp
@[simp] theorem minStage_pend : (minStage s).pend = s.pend := by
  unfold minStage; split <;> simp
@[simp] theorem minStage_sr : (minStage s).sr = s.sr := by
  unfold minStage; split <;> simp
@[simp] theorem minStage_q : (minStage s).q = s.q := by
  unfold minStage; split <;> simp
@[simp] theorem minStage_wt : (minStage s).wt = s.wt := by
  unfold minStage; split <;> simp
@[simp] theorem minStage_tt : (minStage s).tt = s.tt := by
  unfold minStage; split <;> simp
@[simp] theorem minStage_cfg : (minStage s).cfg = s.cfg := by
  unfold minStage; split <;> simp
@[simp] theorem minStage_events : (minStage s).events = s.events := by
  unfold minStage; split <;> simp
@[simp] theorem minStage_edge : (minStage s).edge = s.edge := by
  unfold minStage; split <;> simp
@[simp] theorem minStage_result : (minStage s).result = s.result := by
  unfold minStage; split <;> simp

@[simp] theorem secStage_tick : (secStage s).1.tick = s.tick := by
  unfold secStage; split <;> simp
@[simp] theorem secStage_seq : (secStage s).1.seq = s.seq := by
  unfold secStage; split <;> simp
@[simp] theorem secStage_txb : (secStage s).1.txb = s.txb := by
  unfold secStage; split <;> simp
@[simp] theorem secStage_data : (secStage s).1.data = s.data := by
  unfold secStage; split <;> simp
@[simp] theorem secStage_clock : (secStage s).1.clock = s.clock := by
  unfold secStage; split <;> simp
@[simp] theorem secStage_latch : (secStage s).1.latch = s.latch := by
  unfold secStage; split <;> simp
@[simp] theorem secStage_pend : (secStage s).1.pend = s.pend := by
  unfold secStage; split <;> simp
@[simp] theorem secStage_sr : (secStage s).1.sr = s.sr := by
  unfold secStage; split <;> simp
@[simp] theorem secStage_q : (secStage s).1.q = s.q := by
  unfold secStage; split <;> simp
@[simp] theorem secStage_wt : (secStage s).1.wt = s.wt := by
  unfold secStage; split <;> simp
@[simp] theorem secStage_tt : (secStage s).1.tt = s.tt := by
  unfold secStage; split <;> simp
@[simp] theorem secStage_cfg : (secStage s).1.cfg = s.cfg := by
  unfold secStage; split <;> simp
@[simp] theorem secStage_events : (secStage s).1.events = s.events := by
  unfold secStage; split <;> simp
@[simp] theorem secStage_edge : (secStage s).1.edge = s.edge := by
  unfold secStage; split <;> simp
@[simp] theorem secStage_result : (secStage s).1.result = s.result := by
  unfold secStage; split <;> simp

@[simp] theorem tickStage_seq : (tickStage s).1.seq = s.seq := by
  unfold tickStage; split <;> simp
@[simp] theorem tickStage_txb : (tickStage s).1.txb = s.txb := by
  unfold tickStage; split <;> simp
@[simp] theorem tickStage_data : (tickStage s).1.data = s.data := by
  unfold tickStage; split <;> simp
@[simp] theorem tickStage_clock : (tickStage s).1.clock = s.clock := by
  unfold tickStage; split <;> simp
@[simp] theorem tickStage_latch : (tickStage s).1.latch = s.latch := by
  unfold tickStage; split <;> simp
@[simp] theorem tickStage_pend : (tickStage s).1.pend = s.pend := by
  unfold tickStage; split <;> simp
@[simp] theorem tickStage_sr : (tickStage s).1.sr = s.sr := by
  unfold tickStage; split <;> simp
@[simp] theorem tickStage_q : (tickStage s).1.q = s.q := by
  unfold tickStage; split <;> simp
@[simp] theorem tickStage_wt : (tickStage s).1.wt = s.wt := by
  unfold tickStage; split <;> simp
@[simp] theorem tickStage_tt : (tickStage s).1.tt = s.tt := by
  unfold tickStage; split <;> simp
@[simp] theorem tickStage_cfg : (tickStage s).1.cfg = s.cfg := by
  unfold tickStage; split <;> simp
@[simp] theorem tickStage_events : (tickStage s).1.events = s.events := by
  unfold tickStage; split <;> simp
@[simp] theorem tickStage_edge : (tickStage s).1.edge = s.edge := by
  unfold tickStage; split <;> simp
@[simp] theorem tickStage_result : (tickStage s).1.result = s.result := by
  unfold tickStage; split <;> simp

/-- `minute_changed` (rules R104, R106). -/
theorem tickStage_changed :
    (tickStage s).2 = true ↔ s.tick.toNat + 1 = s.cfg.mainsHz ∧ s.sec.toNat + 1 = 60 := by
  unfold tickStage secStage
  by_cases ht : s.tick.toNat + 1 = s.cfg.mainsHz <;> by_cases hs : s.sec.toNat + 1 = 60 <;>
    simp [ht, hs]

/-- HOUR_INC in range, as a number (rule R105). -/
theorem hourStage_hour (h : s.hour.toNat ≤ 12) :
    (hourStage s).hour.toNat = (if s.hour.toNat = 12 then 1 else s.hour.toNat + 1) ∧
      (hourStage s).free = s.free := by
  unfold hourStage
  by_cases h12 : s.hour.toNat = 12
  · simp [h12]
  · have hv : s.hour.toNat + 1 < 2 ^ 4 := by omega
    simp [h12, fitted_of_lt hv, overflowUse_of_lt hv]
    omega

/-- MIN_INC in range, as numbers (rule R104). -/
theorem minStage_values (hm : s.min.toNat ≤ 59) (hh : s.hour.toNat ≤ 12) :
    (minStage s).min.toNat = (if s.min.toNat = 59 then 0 else s.min.toNat + 1) ∧
      (minStage s).hour.toNat =
        (if s.min.toNat = 59 then (if s.hour.toNat = 12 then 1 else s.hour.toNat + 1)
          else s.hour.toNat) ∧
      (minStage s).free = s.free := by
  unfold minStage
  by_cases h : s.min.toNat = 59
  · have := hourStage_hour { s with min := 0 } hh
    simp_all
  · have hv : s.min.toNat + 1 < 2 ^ 6 := by omega
    simp [h, fitted_of_lt hv, overflowUse_of_lt hv]
    omega

/-- SEC_INC in range, as numbers (rule R103). -/
theorem secStage_values (hs : s.sec.toNat ≤ 59) (hm : s.min.toNat ≤ 59) (hh : s.hour.toNat ≤ 12) :
    (secStage s).1.sec.toNat = (if s.sec.toNat = 59 then 0 else s.sec.toNat + 1) ∧
      (secStage s).1.min.toNat =
        (if s.sec.toNat = 59 then (if s.min.toNat = 59 then 0 else s.min.toNat + 1)
          else s.min.toNat) ∧
      (secStage s).1.hour.toNat =
        (if s.sec.toNat = 59 ∧ s.min.toNat = 59 then
            (if s.hour.toNat = 12 then 1 else s.hour.toNat + 1)
          else s.hour.toNat) ∧
      (secStage s).1.free = s.free := by
  unfold secStage
  by_cases h : s.sec.toNat = 59
  · have hv := minStage_values { s with sec := 0 } hm hh
    simp_all
  · have hv : s.sec.toNat + 1 < 2 ^ 6 := by omega
    simp [h, fitted_of_lt hv, overflowUse_of_lt hv]
    omega

/-- TICK_INC in range, as numbers: the whole cascade (rules R102 to R105). -/
theorem tickStage_values (hF : s.cfg.mainsHz ≤ 63) (h : s.timeOk) :
    (tickStage s).1.tick.toNat =
        (if s.tick.toNat + 1 = s.cfg.mainsHz then 0 else s.tick.toNat + 1) ∧
      (tickStage s).1.sec.toNat =
        (if s.tick.toNat + 1 = s.cfg.mainsHz then
            (if s.sec.toNat = 59 then 0 else s.sec.toNat + 1)
          else s.sec.toNat) ∧
      (tickStage s).1.min.toNat =
        (if s.tick.toNat + 1 = s.cfg.mainsHz ∧ s.sec.toNat = 59 then
            (if s.min.toNat = 59 then 0 else s.min.toNat + 1)
          else s.min.toNat) ∧
      (tickStage s).1.hour.toNat =
        (if s.tick.toNat + 1 = s.cfg.mainsHz ∧ s.sec.toNat = 59 ∧ s.min.toNat = 59 then
            (if s.hour.toNat = 12 then 1 else s.hour.toNat + 1)
          else s.hour.toNat) ∧
      (tickStage s).1.free = s.free := by
  obtain ⟨ht, hs, hm, -, hh⟩ := h
  unfold tickStage
  by_cases hc : s.tick.toNat + 1 = s.cfg.mainsHz
  · have hv := secStage_values { s with tick := 0 } hs hm hh
    simp_all
  · have hv : s.tick.toNat + 1 < 2 ^ 6 := by omega
    simp [hc, fitted_of_lt hv, overflowUse_of_lt hv]
    omega

/-- The cascade keeps the ranges of rule R25 (rule R111). -/
theorem tickStage_timeOk (hF : s.cfg.mainsHz ≤ 63) (h : s.timeOk) : (tickStage s).1.timeOk := by
  have hv := tickStage_values s hF h
  have hcfg : (tickStage s).1.cfg = s.cfg := tickStage_cfg s
  obtain ⟨ht, hs, hm, h1, hh⟩ := h
  obtain ⟨v1, v2, v3, v4, -⟩ := hv
  refine ⟨?_, ?_, ?_, ?_, ?_⟩
  · rw [v1, hcfg]; split <;> omega
  · rw [v2]; split <;> [split; skip] <;> omega
  · rw [v3]; split <;> [split; skip] <;> omega
  · rw [v4]; split <;> [split; skip] <;> omega
  · rw [v4]; split <;> [split; skip] <;> omega

end Sys2Proof.Machine
end

