-- ==== Sys2Proof/Laws/Sequencer.lean ====
section
/-! SUPPORT. Each line-drive step at the sequencer state that selects it, as one equation over
`Drive`, and how results chain. -/

namespace Sys2Proof.Machine

@[simp] theorem andThen_next (s : State) (f : State → Result) : andThen (.next s) f = f s := rfl

@[simp] theorem andThen_refused (r : Refusal) (f : State → Result) :
    andThen (.refused r) f = .refused r := rfl

/-- What a completed chain went through. -/
theorem andThen_eq_next {r : Result} {f : State → Result} {t : State} :
    andThen r f = .next t ↔ ∃ s, r = .next s ∧ f s = .next t := by
  cases r <;> simp [andThen]

variable {s : State} {i : BitIndex}

theorem execClkLow_selected (h : s.seq = .sh i .a) :
    execClkLow i s = .next ((s.drive .clock false).goTo (.sh i .b)) := by simp [execClkLow, h]

theorem execDataSet_selected (h : s.seq = .sh i .b) :
    execDataSet i s = .next ((s.drive .data (bitOf s.txb i)).goTo (.sh i .c)) := by
  simp [execDataSet, h]

theorem execClkHigh_selected (h : s.seq = .sh i .c) :
    execClkHigh i s = .next ((s.drive .clock true).goTo (afterClkHigh i)) := by
  simp [execClkHigh, h]

theorem execLatchHigh_selected (h : s.seq = .lt .hi) :
    execLatchHigh s = .next ((s.drive .latch true).goTo (.lt .lo)) := by simp [execLatchHigh, h]

theorem execLatchLow_selected (h : s.seq = .lt .lo) :
    execLatchLow s = .next (s.drive .latch false).returnFromInterrupt := by
  simp [execLatchLow, h]

/-- TICK where it is selected (rule R171). -/
theorem execTick_selected (hq : s.seq = .wait) (hp : s.pend = true) :
    execTick s = finishTick (tickStage s.takeInterrupt).1 (tickStage s.takeInterrupt).2 := by
  simp [execTick, hq, hp]

/-- What the end of a TICK answers when it completes (rules R107, R171). -/
theorem finishTick_eq_next {c : Bool} {t : State} :
    finishTick s c = .next t ↔
      (refreshCondition s.cfg.refreshPolicy c = false ∧ t = s) ∨
      (refreshCondition s.cfg.refreshPolicy c = true ∧
        encodeDomain s.hour.toNat s.min.toNat = true ∧
        t = s.startFrame (encodeByte s.hour.toNat s.min.toNat)) := by
  unfold finishTick startRefresh
  cases hr : refreshCondition s.cfg.refreshPolicy c <;>
    cases hd : encodeDomain s.hour.toNat s.min.toNat <;> simp [eq_comm]

end Sys2Proof.Machine
end

