-- ==== Sys2Proof/Laws/Step.lean ====
section
/-! SUPPORT. Everything one completed step can be, once, guards included (rules R77, R170, R172).
Later proofs about steps take these cases and do not unfold the step. -/

namespace Sys2Proof.Machine

/-- What a completed step from `s` to `t` was. -/
inductive Stepped (s t : State) : Prop where
  | clockEdge (edge : s.edge = some .clockRise) (next : t = { s.shiftIn with edge := none })
  | latchEdge (edge : s.edge = some .latchRise) (next : t = { s.copyOut with edge := none })
  | reset (edge : s.edge = none) (instr : nextInstr s = .ok .reset)
      (event : s.envPoint = .reset ∨ s.envPoint = .resetAndPulse) (build : s.cfg.legal)
      (next : t = s.popEvent.initialise)
  | pulse (edge : s.edge = none) (instr : nextInstr s = .ok .pulse)
      (event : s.envPoint = .pulse) (pend : s.pend = false)
      (next : t = { s.popEvent with pend := true })
  | wait (edge : s.edge = none) (instr : nextInstr s = .ok .wait)
      (event : s.envPoint = .quiet) (seq : s.seq = .wait) (pend : s.pend = false)
      (next : t = s.popEvent)
  | tick (edge : s.edge = none) (instr : nextInstr s = .ok .tick)
      (event : s.envPoint = .quiet) (seq : s.seq = .wait) (pend : s.pend = true)
      (next : finishTick (tickStage s.popEvent.takeInterrupt).1
        (tickStage s.popEvent.takeInterrupt).2 = .next t)
  | clkLow (i : BitIndex) (edge : s.edge = none) (instr : nextInstr s = .ok (.clkLow i))
      (event : s.envPoint = .quiet) (seq : s.seq = .sh i .a)
      (next : t = (s.popEvent.drive .clock false).goTo (.sh i .b))
  | dataSet (i : BitIndex) (edge : s.edge = none) (instr : nextInstr s = .ok (.dataSet i))
      (event : s.envPoint = .quiet) (seq : s.seq = .sh i .b)
      (next : t = (s.popEvent.drive .data (bitOf s.txb i)).goTo (.sh i .c))
  | clkHigh (i : BitIndex) (edge : s.edge = none) (instr : nextInstr s = .ok (.clkHigh i))
      (event : s.envPoint = .quiet) (seq : s.seq = .sh i .c)
      (next : t = (s.popEvent.drive .clock true).goTo (afterClkHigh i))
  | latchHigh (edge : s.edge = none) (instr : nextInstr s = .ok .latchHigh)
      (event : s.envPoint = .quiet) (seq : s.seq = .lt .hi)
      (next : t = (s.popEvent.drive .latch true).goTo (.lt .lo))
  | latchLow (edge : s.edge = none) (instr : nextInstr s = .ok .latchLow)
      (event : s.envPoint = .quiet) (seq : s.seq = .lt .lo)
      (next : t = (s.popEvent.drive .latch false).returnFromInterrupt)

theorem execReset_eq_next {s t : State} :
    execReset s = .next t ↔ s.cfg.legal ∧ t = s.initialise := by
  unfold execReset
  by_cases h : s.cfg.legal
  · rw [if_pos h]; exact ⟨fun e => ⟨h, by cases e; rfl⟩, fun e => e.2 ▸ rfl⟩
  · rw [if_neg h]; exact ⟨fun e => (nomatch e), fun e => absurd e.1 h⟩

theorem execPulse_eq_next {s t : State} :
    execPulse s = .next t ↔ s.pend = false ∧ t = { s with pend := true } := by
  unfold execPulse
  cases h : s.pend <;> simp [eq_comm]

/-- Every completed step is one of the cases. -/
theorem stepped_of_step {s t : State} (h : step s = .next t) : Stepped s t := by
  cases he : s.edge with
  | some d =>
    rw [step_of_edge s d he] at h
    cases d <;> cases h
    · exact .clockEdge he rfl
    · exact .latchEdge he rfl
  | none =>
    rw [step_of_no_edge s he] at h
    have hn := nextInstr_of_no_edge s he
    cases hv : s.envPoint with
    | quiet =>
      rw [hv] at h hn
      cases hq : s.seq with
      | wait =>
        have hq' : s.popEvent.seq = .wait := hq
        cases hp : s.pend <;> rw [hq, hp] at h hn
        · have hp' : s.popEvent.pend = false := hp
          simp only [EnvPoint.instr, Seq.instr, exec, execWait, hq', hp', and_self, if_true] at h
          cases h
          exact .wait he hn hv hq hp rfl
        · refine .tick he hn hv hq hp ?_
          rw [← execTick_selected (s := s.popEvent) hq hp]; exact h
      | sh i x =>
        cases x <;> rw [hq] at h hn <;> simp only [EnvPoint.instr, Seq.instr, exec] at h
        · rw [execClkLow_selected (s := s.popEvent) hq] at h
          cases h; exact .clkLow i he hn hv hq rfl
        · rw [execDataSet_selected (s := s.popEvent) hq] at h
          cases h; exact .dataSet i he hn hv hq rfl
        · rw [execClkHigh_selected (s := s.popEvent) hq] at h
          cases h; exact .clkHigh i he hn hv hq rfl
      | lt x =>
        cases x <;> rw [hq] at h hn <;> simp only [EnvPoint.instr, Seq.instr, exec] at h
        · rw [execLatchHigh_selected (s := s.popEvent) hq] at h
          cases h; exact .latchHigh he hn hv hq rfl
        · rw [execLatchLow_selected (s := s.popEvent) hq] at h
          cases h; exact .latchLow he hn hv hq rfl
    | pulse =>
      rw [hv] at h hn
      obtain ⟨hp, rfl⟩ := execPulse_eq_next.mp h
      exact .pulse he hn hv hp rfl
    | reset =>
      rw [hv] at h hn
      obtain ⟨hl, rfl⟩ := execReset_eq_next.mp h
      exact .reset he hn (.inl hv) hl rfl
    | resetAndPulse =>
      rw [hv] at h hn
      obtain ⟨hl, rfl⟩ := execReset_eq_next.mp h
      exact .reset he hn (.inr hv) hl rfl

end Sys2Proof.Machine
end

