-- ==== Sys2Proof/Laws/Runs.lean ====
section
/-! SUPPORT. Runs of several steps: `runSteps` is the run of the host's interface, a step with no
event scheduled performs the sequencer's operation and leaves the schedule alone, and a quiet block
stays as it is (rules R18, R77, R109). -/

namespace Sys2Proof.Machine

/-- One step and then the rest. -/
theorem runSteps_succ (n : Nat) (s : State) :
    runSteps (n + 1) s = andThen (step s) (runSteps n) := rfl

/-- A chain of three operations may be read from either end. -/
theorem andThen_assoc (r : Result) (f g : State → Result) :
    andThen (andThen r f) g = andThen r (fun s => andThen (f s) g) := by cases r <;> rfl

/-- A machine whose step completes runs on from there. -/
theorem core_run_next (M : Host.Core) {n : Nat} {s t : M.State} (h : M.step s = .next t) :
    M.run (n + 1) s = M.run n t := by rw [Host.Core.run, h]

/-- A machine whose step ends in a fault has run to its end. -/
theorem core_run_fault (M : Host.Core) {n : Nat} {s : M.State} {e : M.Fault}
    (h : M.step s = .fault e) : M.run (n + 1) s = .fault e := by rw [Host.Core.run, h]

/-- A machine whose step is refused has run to its end. -/
theorem core_run_refused (M : Host.Core) {n : Nat} {s : M.State} {e : M.Refusal}
    (h : M.step s = .refused e) : M.run (n + 1) s = .refused e := by rw [Host.Core.run, h]

/-- `runSteps` is the run of the host's interface. -/
theorem runSteps_core (n : Nat) : ∀ s : State, runSteps n s = Host.Core.run core n s := by
  induction n with
  | zero => exact fun s => rfl
  | succ n ih =>
    intro s
    cases h : step s with
    | next t =>
      exact Eq.trans (by rw [runSteps, h]; rfl) ((ih t).trans (core_run_next core h).symm)
    | fault e => exact Eq.trans (by rw [runSteps, h]; rfl) (core_run_fault core h).symm
    | refused e => exact Eq.trans (by rw [runSteps, h]; rfl) (core_run_refused core h).symm

variable {s : State}

/-- With nothing scheduled a step performs the sequencer's operation in the state itself. -/
theorem step_of_no_event (he : s.edge = none) (hv : s.events = []) :
    step s = exec (s.seq.instr s.pend) s := by
  have hu : s.popEvent = s := by cases s; simp_all [State.popEvent]
  have hq : s.envPoint = .quiet := by simp [State.envPoint, hv]
  rw [step_of_no_edge s he, hu, hq]
  rfl

/-- A quiet block with nothing scheduled stays as it is (rule R109). -/
theorem runSteps_quiet (n : Nat) (h : s.quiet) (hv : s.events = []) : runSteps n s = .next s := by
  induction n with
  | zero => rfl
  | succ n ih =>
    obtain ⟨hq, hp, he⟩ := h
    rw [runSteps_succ, step_of_no_event he hv, hq, hp]
    simp only [Seq.instr, exec, execWait, hq, hp, and_self, if_true, andThen_next]
    exact ih

end Sys2Proof.Machine
end

