-- ==== Sys2Proof/Tests/Slice0.lean ====
section
/-! SUPPORT. Tests of single operations against the examples and vectors of the spec
(95_test_vectors.md and the examples in the operation rules), the smoke test of the well-formedness
check, words written out from the opcode table, and a witness for each statement's hypotheses. -/

namespace Sys2Proof.Tests

open Sys2Proof.Machine

/-! ## Helpers -/

/-- A build for the tests, with the mains frequency as its one argument. -/
def testBuild (f : Nat) : Params := ⟨f, 12, 0, 0, .minuteChange, .rising, ⟨0, 1, 2, 3⟩⟩

/-- The reset state of the test build for 50 Hz, with zero where the spec gives no value. -/
def base : State := { State.resetWith (testBuild 50) with txb := 0, sr := 0, q := 0 }

/-- A waiting block at a time of day. -/
def clockAt (h m s t : Nat) : State :=
  { base with
    hour := BitVec.ofNat 4 h, min := BitVec.ofNat 6 m, sec := BitVec.ofNat 6 s,
    tick := BitVec.ofNat 6 t }

/-- The time registers, hours first. -/
def clockOf (s : State) : Nat × Nat × Nat × Nat :=
  (s.hour.toNat, s.min.toNat, s.sec.toNat, s.tick.toNat)

/-- Read something off the state an operation leads to. -/
def after {α : Type} (r : Result) (f : State → α) : Option α :=
  match r with
  | .next s => some (f s)
  | .fault _ => none
  | .refused _ => none

/-- Why an operation is refused. -/
def refusalOf (r : Result) : Option Refusal :=
  match r with
  | .next _ => none
  | .fault _ => none
  | .refused e => some e

/-- A trace in the digit code of rule R75. -/
def digits (es : List WireEvent) : List Nat := es.map (fun e => e.code.toNat)

/-- The block at 9:35:00 with `n` writes of its first frame, for 0x97, made (program P4). -/
def sending (n : Nat) (q : Seq) (sr : Byte) : State :=
  { clockAt 9 35 0 0 with
    txb := 0x97, seq := q, sr := sr
    wt := (frameEvents 0x97).take n
    tt := transitions Levels.low ((frameEvents 0x97).take n)
    data := (levelsAfter Levels.low ((frameEvents 0x97).take n)).data
    clock := (levelsAfter Levels.low ((frameEvents 0x97).take n)).clock
    latch := (levelsAfter Levels.low ((frameEvents 0x97).take n)).latch }

/-- The same block with the whole frame sent. -/
def shown : State := { sending 26 .wait 0x97 with q := 0x97 }

/-! ## The well-formedness check refuses ill-formed operands -/

theorem test_wf_encode_hours_low : (Instr.encode 0 0).wf = false := by decide
theorem test_wf_encode_hours_high : (Instr.encode 13 0).wf = false := by decide
theorem test_wf_encode_minutes : (Instr.encode 12 60).wf = false := by decide
theorem test_wf_refresh_hours_low : (Instr.refresh 0 59).wf = false := by decide
theorem test_wf_refresh_hours_high : (Instr.refresh 13 59).wf = false := by decide
theorem test_wf_refresh_minutes : (Instr.refresh 1 60).wf = false := by decide
theorem test_wf_tens_minutes : (Instr.tens 60).wf = false := by decide
theorem test_wf_five_minutes : (Instr.five 60).wf = false := by decide
theorem test_wf_accepts : (Instr.encode 12 59).wf && (Instr.refresh 1 0).wf &&
    (Instr.tens 59).wf && (Instr.five 0).wf = true := by decide

/-! ## Words written out from the patterns of the opcode table (R78) and vector V7 -/

theorem test_decode_reset : decodeSelector 0b1001000001 = .ok .reset := by decide
theorem test_decode_pulse : decodeSelector 0b0100101101 = .ok .pulse := by decide
theorem test_decode_tick : decodeSelector 0b0010000000 = .ok .tick := by decide
theorem test_decode_wait : decodeSelector 0b0000000000 = .ok .wait := by decide
theorem test_decode_clk_low : decodeSelector 0b0000111100 = .ok (.clkLow 7) := by decide
theorem test_decode_data_set : decodeSelector 0b0010101101 = .ok (.dataSet 3) := by decide
theorem test_decode_clk_high : decodeSelector 0b0000111110 = .ok (.clkHigh 7) := by decide
theorem test_decode_latch_high : decodeSelector 0b0011000000 = .ok .latchHigh := by decide
theorem test_decode_latch_low : decodeSelector 0b0001000001 = .ok .latchLow := by decide
theorem test_decode_sr_shift : decodeTrace 0b011 = .ok .srShift := by decide
theorem test_decode_sr_latch : decodeTrace 0b101 = .ok .srLatch := by decide

/-- The unused values of rule R81. -/
theorem test_decode_unused :
    decodeSelector 0b1100000000 = .error .unusedEvent ∧
    decodeSelector 0b0001100000 = .error .unusedPhase ∧
    decodeSelector 0b0000100011 = .error .unusedSubStep ∧
    decodeSelector 0b0001000010 = .error .unusedSubStep ∧
    decodeSelector 0b0001000100 = .error .unusedIndex ∧
    decodeSelector 0b0000000100 = .error .unusedIndex ∧
    decodeTrace 0b010 = .error .noReaction := by decide

/-- The first, the middle and the last `SH` code of vector V7. -/
theorem test_seq_codes :
    (Seq.sh 0 .a).code = 0x20 ∧ (Seq.sh 3 .b).code = 0x2D ∧ (Seq.sh 7 .c).code = 0x3E ∧
      (Seq.lt .hi).code = 0x40 ∧ (Seq.lt .lo).code = 0x41 ∧ allSeqs.length = 27 := by decide

/-! ## RESET and PULSE -/

/-- Program P7: a RESET in the middle of a frame leaves the shift register alone. -/
theorem test_reset_mid_frame :
    after (exec .reset { sending 9 (.sh 3 .a) 0xF8 with q := 0xC0 })
      (fun t => (clockOf t, t.seq, t.pend, t.levels, t.sr, t.q, t.wt, t.tt)) =
      some ((12, 0, 0, 0), .wait, false, Levels.low, 0xF8, 0xC0, [], []) := rfl

/-- Vector V9: builds that are refused at RESET. -/
theorem test_reset_bad_build :
    refusalOf (exec .reset { base with cfg := testBuild 0 }) = some .badConfig ∧
    refusalOf (exec .reset { base with cfg := testBuild 64 }) = some .badConfig ∧
    refusalOf (exec .reset { base with cfg := { testBuild 50 with initHour := 0 } }) =
      some .badConfig ∧
    refusalOf (exec .reset { base with cfg := { testBuild 50 with initHour := 13 } }) =
      some .badConfig := by decide

/-- Program P5: a PULSE during a frame is held and changes nothing else. -/
theorem test_pulse_deferred :
    exec .pulse (sending 10 (.sh 3 .b) 0xE0) =
      .next { sending 10 (.sh 3 .b) 0xE0 with pend := true } := rfl

/-- Vector V9: a second PULSE while one is pending. -/
theorem test_pulse_overrun :
    refusalOf (exec .pulse { base with pend := true }) = some .pulseOverrun := by decide

/-! ## The Timekeeper -/

/-- Vector V2 row 10 and program P3: 12:59:59 is followed by 1:00:00, byte 0x10. -/
theorem test_tick_wraps_all :
    after (exec .tick { clockAt 12 59 59 49 with pend := true })
      (fun t => (clockOf t, t.pend, t.txb, t.seq, t.wt)) =
      some ((1, 0, 0, 0), false, 0x10, .sh 0 .a, []) := rfl

/-- Vector V2 row 6: a second rollover without a minute rollover sends nothing. -/
theorem test_tick_second_rollover :
    after (exec .tick { clockAt 12 0 58 49 with pend := true })
      (fun t => (clockOf t, t.pend, t.seq)) = some ((12, 0, 59, 0), false, .wait) := by decide

/-- Rule R102's example, `F` = 60. -/
theorem test_tick_inc :
    after (exec .tickInc { clockAt 12 0 0 58 with cfg := testBuild 60 }) clockOf =
        some (12, 0, 0, 59) ∧
      after (exec .tickInc { clockAt 12 0 0 59 with cfg := testBuild 60 }) clockOf =
        some (12, 0, 1, 0) := by decide

/-- Rule R103's example. -/
theorem test_sec_inc :
    after (exec .secInc (clockAt 3 4 58 0)) clockOf = some (3, 4, 59, 0) ∧
      after (exec .secInc (clockAt 3 4 59 0)) clockOf = some (3, 5, 0, 0) := by decide

/-- Rule R104's example. -/
theorem test_min_inc :
    after (exec .minInc (clockAt 9 34 0 0)) clockOf = some (9, 35, 0, 0) ∧
      after (exec .minInc (clockAt 9 59 0 0)) clockOf = some (10, 0, 0, 0) := by decide

/-- Rule R105's example. -/
theorem test_hour_inc :
    after (exec .hourInc (clockAt 11 0 0 0)) clockOf = some (12, 0, 0, 0) ∧
      after (exec .hourInc (clockAt 12 0 0 0)) clockOf = some (1, 0, 0, 0) := by decide

theorem test_wait : exec .wait shown = .next shown := rfl

/-- Program P6: under `EVERY_TICK` the first pulse sends 0xC0. -/
theorem test_tick_every_tick :
    after (exec .tick { base with
        pend := true, cfg := { testBuild 50 with refreshPolicy := .everyTick } })
      (fun t => (clockOf t, t.txb, t.seq)) = some ((12, 0, 0, 1), 0xC0, .sh 0 .a) := by decide

/-! ## The display encoder: S1, S2, S11 and vectors V3 and V9 -/

theorem test_encode :
    encodeByte 9 35 = 0x97 ∧ encodeByte 2 10 = 0x22 ∧ encodeByte 12 0 = 0xC0 ∧
      encodeByte 12 59 = 0xCB ∧ encodeByte 1 4 = 0x10 ∧ encodeByte 1 5 = 0x11 ∧
      after (exec (.encode 8 49) base) (fun t => t.result) = some 0x89 := by decide

theorem test_encode_domain :
    refusalOf (exec (.encode 0 0) base) = some .encodeDomain ∧
      refusalOf (exec (.encode 13 0) base) = some .encodeDomain ∧
      refusalOf (exec (.encode 12 60) base) = some .encodeDomain := by decide

theorem test_tens :
    after (exec (.tens 35) base) (fun t => t.result) = some 3 ∧
      after (exec (.tens 9) base) (fun t => t.result) = some 0 ∧
      after (exec (.tens 59) base) (fun t => t.result) = some 5 := by decide

/-- Above 59 minutes TENS and FIVE complete and use up one free value; its value is open. -/
theorem test_tens_five_unstated :
    after (exec (.tens 60) base) (fun t => (t.free, clockOf t)) = some (2, clockOf base) ∧
      after (exec (.five 60) base) (fun t => (t.free, clockOf t)) = some (2, clockOf base) := by
  decide

theorem test_five :
    after (exec (.five 35) base) (fun t => t.result) = some 1 ∧
      after (exec (.five 10) base) (fun t => t.result) = some 0 ∧
      after (exec (.five 4) base) (fun t => t.result) = some 0 := by decide

/-! ## The shift-out driver -/

/-- Rule R150's example, S3 and vector V6: the frame for 9:35 on the wires. -/
theorem test_refresh :
    after (exec (.refresh 9 35) base) (fun t => (digits t.wt, t.sr, t.q, t.levels)) =
      some ([2, 1, 3, 2, 1, 3, 2, 1, 3, 2, 0, 3, 2, 1, 3, 2, 0, 3, 2, 0, 3, 2, 1, 3, 5, 4],
        0x97, 0x97, ⟨true, true, false⟩) := by decide

/-- Vector V6 row 2: a frame for 0xC0 after a frame for 0xC0. -/
theorem test_shift_out :
    after (exec (.shiftOut 0xC0) { base with data := true, clock := true, q := 0xC0 })
      (fun t => (digits t.tt, t.q, t.seq)) =
      some ([2, 0, 3, 2, 3, 2, 3, 2, 3, 2, 3, 2, 3, 2, 1, 3, 2, 3, 5, 4], 0xC0, .wait) := by
  decide

/-- Vector V6 row 1: the first frame after RESET. -/
theorem test_shift_out_first :
    after (exec (.shiftOut 0xC0) base) (fun t => digits t.tt) =
      some [3, 2, 3, 2, 3, 2, 3, 2, 3, 2, 3, 2, 1, 3, 2, 3, 5, 4] := by decide

/-- Rule R152's example and program P4 steps 11 to 13. -/
theorem test_shift_bit :
    after (exec (.shiftBit 3) (sending 9 (.sh 3 .a) 0xE0))
      (fun t => (digits (t.wt.drop 9), t.sr, t.seq)) =
      some ([2, 0, 3], 0x70, .sh 4 .a) := by decide

/-- Rule R153's example. -/
theorem test_clk_low :
    after (exec (.clkLow 4) { base with seq := .sh 4 .a, clock := true })
      (fun t => (t.clock, t.seq, digits t.wt, digits t.tt, t.sr)) =
      some (false, .sh 4 .b, [2], [2], 0) := by decide

/-- Rule R153's corner case: the first write of the first frame changes nothing on the wire. -/
theorem test_clk_low_no_change :
    after (exec (.clkLow 0) (sending 0 (.sh 0 .a) 0)) (fun t => (digits t.wt, digits t.tt)) =
      some ([2], []) := by decide

/-- Rule R154's example. -/
theorem test_data_set :
    after (exec (.dataSet 3) { base with seq := .sh 3 .b, txb := 0x97, data := true })
      (fun t => (t.data, t.seq, digits t.tt, t.sr)) = some (false, .sh 3 .c, [0], 0) := by decide

/-- Rule R155's example, with program P4 step 25. -/
theorem test_clk_high :
    after (exec (.clkHigh 7) (sending 23 (.sh 7 .c) 0x2E)) (fun t => (t.clock, t.seq, t.sr)) =
      some (true, .lt .hi, 0x97) := by decide

/-- Rule R156's example. -/
theorem test_latch_pulse :
    after (exec .latchPulse (sending 24 (.lt .hi) 0x97))
      (fun t => (digits (t.wt.drop 24), t.q, t.seq)) = some ([5, 4], 0x97, .wait) := by decide

/-- Rule R157's example, with program P4 step 26. -/
theorem test_latch_high :
    after (exec .latchHigh (sending 24 (.lt .hi) 0x97)) (fun t => (t.latch, t.seq, t.q)) =
      some (true, .lt .lo, 0x97) := by decide

/-- Rule R158's example, with vector V8: the falling edge of LATCH copies nothing. -/
theorem test_latch_low :
    after (exec .latchLow { sending 25 (.lt .lo) 0x97 with q := 0xC0 })
      (fun t => (t.latch, t.seq, t.q)) = some (false, .wait, 0xC0) := by decide

/-! ## The shift register: vector V8 -/

theorem test_sr_shift :
    after (exec .srShift { base with sr := 0b10010111, q := 0xC0, data := false })
      (fun t => (t.sr, t.q)) = some (0b01001011, 0xC0) := by decide

theorem test_sr_latch :
    after (exec .srLatch { base with sr := 0b10010111, q := 0b11000000 })
      (fun t => (t.sr, t.q)) = some (0b10010111, 0b10010111) := by decide

/-- The LEDs for 0x97: 7, 4, 2, 1 and 0 lit, 6, 5 and 3 dark. -/
theorem test_leds :
    allBits.map shown.led = [true, true, true, false, true, false, false, true] := by decide

/-! ## Steps -/

/-- Rule R178: after a frame the TICK for the deferred pulse is next. -/
theorem test_step_deferred :
    nextInstr { shown with pend := true } = .ok .tick ∧
      after (step { shown with pend := true }) clockOf = some (9, 35, 0, 1) := by decide

/-- Rule R195: RESET and PULSE at the same point are RESET. -/
theorem test_step_reset_wins :
    after (step { shown with events := [.resetAndPulse] })
      (fun t => (clockOf t, t.pend, t.events)) = some ((12, 0, 0, 0), false, []) := by decide

/-! ## States that meet the invariant: the reset state, P4's frame, and the rest after it -/

theorem base_inv : base.Inv :=
  ⟨by decide, by decide, by simp only [State.linesOk, base, State.resetWith]; decide,
    by simp only [State.deviceOk, base, State.resetWith]; decide,
    by simp only [State.txbOk]; decide, ⟨by decide, by decide⟩, rfl⟩

theorem sending_first_inv : (sending 0 (.sh 0 .a) 0x5A).Inv :=
  ⟨by decide, by decide, by simp only [State.linesOk, sending]; decide,
    by simp only [State.deviceOk, sending]; decide, by simp only [State.txbOk]; decide, ⟨by decide, by decide⟩, rfl⟩

theorem sending_clk_low_inv : (sending 21 (.sh 7 .a) 0x2E).Inv :=
  ⟨by decide, by decide, by simp only [State.linesOk, sending]; decide,
    by simp only [State.deviceOk, sending]; decide, by simp only [State.txbOk]; decide, ⟨by decide, by decide⟩, rfl⟩

theorem sending_data_set_inv : (sending 22 (.sh 7 .b) 0x2E).Inv :=
  ⟨by decide, by decide, by simp only [State.linesOk, sending]; decide,
    by simp only [State.deviceOk, sending]; decide, by simp only [State.txbOk]; decide, ⟨by decide, by decide⟩, rfl⟩

theorem sending_clk_high_inv : (sending 23 (.sh 7 .c) 0x2E).Inv :=
  ⟨by decide, by decide, by simp only [State.linesOk, sending]; decide,
    by simp only [State.deviceOk, sending]; decide, by simp only [State.txbOk]; decide, ⟨by decide, by decide⟩, rfl⟩

theorem sending_latch_high_inv : (sending 24 (.lt .hi) 0x97).Inv :=
  ⟨by decide, by decide, by simp only [State.linesOk, sending]; decide,
    by simp only [State.deviceOk, sending], by simp only [State.txbOk]; decide, ⟨by decide, by decide⟩, rfl⟩

/-- The last state of the frame, the outputs latched. -/
def latched : State := { sending 25 (.lt .lo) 0x97 with q := 0x97 }

theorem latched_inv : latched.Inv :=
  ⟨by decide, by decide, by simp only [State.linesOk, latched, sending]; decide,
    by simp only [State.deviceOk, latched, sending]; decide, by simp only [State.txbOk]; decide,
    ⟨by decide, by decide⟩, rfl⟩

theorem shown_inv : shown.Inv :=
  ⟨by decide, by decide, by simp only [State.linesOk, shown, sending]; decide,
    by simp only [State.deviceOk, shown, sending]; decide, by simp only [State.txbOk]; decide,
    ⟨by decide, by decide⟩, rfl⟩

/-- At rest with a pulse pending and the environment about to deliver `es`. -/
def pendingWith (es : List EnvPoint) : State := { shown with pend := true, events := es }

theorem pendingWith_inv (es : List EnvPoint) : (pendingWith es).Inv := by
  obtain ⟨a, b, c, d, e, f, g⟩ := shown_inv
  exact ⟨a, b, c, d, e, f, g⟩

/-- The second frame about to begin: the same byte again, a minute later. -/
def secondFrame : State :=
  { shown with min := 36, seq := .sh 0 .a }

theorem secondFrame_inv : secondFrame.Inv :=
  ⟨by decide, by decide, by simp only [State.linesOk, secondFrame, shown, sending]; decide,
    by simp only [State.deviceOk, secondFrame]; decide, by simp only [State.txbOk]; decide,
    ⟨by decide, by decide⟩, rfl⟩

/-! ## A witness for the hypotheses of each statement -/

theorem witness_DecodeReadsBackEveryEncodedOperation :
    encode (.clkLow 7) = some (.selector 0x03C) ∧ encode .srLatch = some (.trace 5) := by decide

theorem witness_SelectorWordsDecodeByMaskAndPattern :
    decodeSelector 0x0AD = .ok (.dataSet 3) ∧
      encode (.dataSet 3) = some (.selector 0x02D) ∧
      (0x0AD : Selector) &&& selectorMask (.dataSet 3) = 0x02D := by decide

theorem witness_StepPerformsTheSelectedOperation :
    (base.edge = none ∧
      decode (.selector (base.envPoint.code ++ BitVec.ofBool base.pend ++ base.seq.code)) =
        .ok .wait) ∧
    (({ base with edge := some .clockRise } : State).edge = some .clockRise ∧
      decode (.trace DeviceEdge.clockRise.event.code) = .ok .srShift) ∧
    decode (.trace DeviceEdge.latchRise.event.code) = .ok .srLatch := by decide

/-- One state for each clause: the three events, and the sequencer at both ends of its ranges. -/
theorem witness_StepSelectsByEventThenBySequencer :
    ({ base with events := [.reset] } : State).envPoint = .reset ∧
    ({ base with events := [.resetAndPulse] } : State).envPoint = .resetAndPulse ∧
    ({ base with events := [.pulse] } : State).envPoint = .pulse ∧
    (base.edge = none ∧ base.envPoint = .quiet ∧ base.seq = .wait ∧ base.pend = false) ∧
    ((pendingWith []).envPoint = .quiet ∧ (pendingWith []).seq = .wait ∧
      (pendingWith []).pend = true) ∧
    (secondFrame.envPoint = .quiet ∧ secondFrame.seq = .sh 0 .a) ∧
    (sending 22 (.sh 7 .b) 0x2E).seq = .sh 7 .b ∧
    (sending 23 (.sh 7 .c) 0x2E).seq = .sh 7 .c ∧
    (sending 24 (.lt .hi) 0x97).seq = .lt .hi ∧ latched.seq = .lt .lo := by decide

theorem witness_PlacedWordIsPerformedNext :
    encode .reset = some (.selector 0x200) ∧ encode (.clkHigh 7) = some (.selector 0x03E) ∧
      encode .srShift = some (.trace 3) := by decide

theorem witness_PulseIsLatchedOrRefused :
    base.pend = false ∧ (pendingWith []).pend = true := by decide

/-- The least and the greatest legal `F` and their illegal neighbours. -/
theorem witness_ResetInitialisesTheBlock :
    (testBuild 1).legal ∧ (testBuild 63).legal ∧ ¬ (testBuild 0).legal ∧
      ¬ (testBuild 64).legal := by decide

theorem witness_ResetStateHoldsTheInitialTime :
    ({ testBuild 60 with initHour := 1, initMin := 59, initSec := 59 } : Params).legal ∧
      (testBuild 50).isHardware := by decide

theorem witness_TickIncCountsModuloTheMainsFrequency :
    (clockAt 12 0 0 49).tick.toNat + 1 = (clockAt 12 0 0 49).cfg.mainsHz ∧
    ((clockAt 12 0 0 62).tick.toNat + 1 ≠ (clockAt 12 0 0 62).cfg.mainsHz ∧
      (clockAt 12 0 0 62).tick.toNat + 1 ≤ 63) := by decide

theorem witness_SecIncCarriesAtSixty :
    (clockAt 1 0 59 0).sec.toNat = 59 ∧ (clockAt 1 0 58 0).sec.toNat < 59 := by decide

theorem witness_MinIncCarriesAtSixty :
    (clockAt 1 59 0 0).min.toNat = 59 ∧ (clockAt 1 58 0 0).min.toNat < 59 ∧
      (clockAt 1 0 59 49).tick.toNat + 1 = (clockAt 1 0 59 49).cfg.mainsHz ∧
      (clockAt 1 0 59 49).sec.toNat + 1 = 60 := by decide

theorem witness_HourWheelWrapsTwelveToOne :
    (clockAt 12 0 0 0).hour.toNat = 12 ∧ (clockAt 11 0 0 0).hour.toNat < 12 := by decide

theorem witness_IncrementThatDoesNotFitCompletes :
    ((clockAt 1 0 0 63).tick.toNat = 63 ∧ (clockAt 1 0 0 63).cfg.mainsHz ≠ 64) ∧
      (clockAt 1 0 63 0).sec.toNat = 63 ∧ (clockAt 1 63 0 0).min.toNat = 63 ∧
      (clockAt 15 0 0 0).hour.toNat = 15 := by decide

theorem witness_TickStepRunsTheCascadeAndStartsTheRefresh :
    (pendingWith []).timeOk ∧ (pendingWith []).cfg.mainsHz ≤ 63 ∧ (pendingWith []).seq = .wait ∧
      (pendingWith []).pend = true := by decide

theorem witness_TimeRegistersStayInRange :
    (∃ t, exec .reset base = .next t) ∧
    (base.cfg.legal ∧ (pendingWith []).timeOk ∧ ∃ t, exec .tick (pendingWith []) = .next t) ∧
    (latched.timeOk ∧ ∃ t, step latched = .next t) :=
  ⟨⟨_, rfl⟩, ⟨by decide, by decide, _, rfl⟩, by decide, _, rfl⟩

/-- The start of vector V1's last instance, with `F` = 60. -/
theorem witness_CascadeHasTheClosedForm :
    ({ clockAt 5 17 41 37 with cfg := testBuild 60 } : State).cfg.legal ∧
      ({ clockAt 5 17 41 37 with cfg := testBuild 60 } : State).timeOk := by decide

theorem witness_TimeRegistersReturnAfterOnePeriodOnly :
    base.cfg.legal ∧ base.timeOk ∧ (0 < 1 ∧ 1 ≤ 43200 * base.cfg.mainsHz) ∧
      (0 < 2160000 ∧ 2160000 = 43200 * base.cfg.mainsHz) := by decide

theorem witness_NestedAndFlatReadingsAgree :
    (clockAt 12 59 59 49).cfg.legal ∧ (clockAt 12 59 59 49).timeOk := by decide

theorem witness_WaitChangesNothing :
    shown.seq = .wait ∧ shown.pend = false ∧ shown.edge = none ∧ shown.events = [] := by decide

/-- For TENS, FIVE, ENCODE and the two statements about the display byte: both ends of the ranges. -/
theorem witness_DisplayDomain : (1 ≤ 1 ∧ 1 ≤ 12 ∧ 0 ≤ 59) ∧ (1 ≤ 12 ∧ 12 ≤ 12 ∧ 59 ≤ 59) := by
  decide

/-- The operands just outside the domain, for each clause. -/
theorem witness_DisplayFunctionsOutsideTheirDomain :
    (0 = 0 ∨ 12 < 0 ∨ 59 < 0) ∧ (13 = 0 ∨ 12 < 13 ∨ 59 < 0) ∧ (12 = 0 ∨ 12 < 12 ∨ 59 < 60) := by
  decide

theorem witness_ClkLowDrivesTheClockLow :
    (secondFrame.Inv ∧ secondFrame.seq = .sh 0 .a ∧ secondFrame.wt ≠ []) ∧
    ((sending 0 (.sh 0 .a) 0x5A).Inv ∧ (sending 0 (.sh 0 .a) 0x5A).wt = []) ∧
    ((sending 21 (.sh 7 .a) 0x2E).Inv ∧ (sending 21 (.sh 7 .a) 0x2E).seq = .sh 7 .a) :=
  ⟨⟨secondFrame_inv, rfl, by decide⟩, ⟨sending_first_inv, rfl⟩, sending_clk_low_inv, rfl⟩

theorem witness_DataSetDrivesTheBitOfTheTransmitByte :
    (sending 22 (.sh 7 .b) 0x2E).Inv ∧ (sending 22 (.sh 7 .b) 0x2E).seq = .sh 7 .b :=
  ⟨sending_data_set_inv, rfl⟩

theorem witness_ClkHighDrivesTheClockHighAndShifts :
    (sending 23 (.sh 7 .c) 0x2E).Inv ∧ (sending 23 (.sh 7 .c) 0x2E).seq = .sh 7 .c :=
  ⟨sending_clk_high_inv, rfl⟩

theorem witness_LatchHighDrivesTheLatchHighAndCopies :
    (sending 24 (.lt .hi) 0x97).Inv ∧ (sending 24 (.lt .hi) 0x97).seq = .lt .hi :=
  ⟨sending_latch_high_inv, rfl⟩

theorem witness_LatchLowEndsTheFrame :
    (latched.Inv ∧ latched.seq = .lt .lo) ∧
      (({ latched with pend := true } : State).pend = true ∧ latched.edge = none ∧
        latched.envPoint = .quiet) :=
  ⟨⟨latched_inv, rfl⟩, by decide⟩

/-- One state for each clause. -/
theorem witness_UnselectedStepsAreRefused :
    ¬ (base.seq = .wait ∧ base.pend = true) ∧
    ¬ ((pendingWith []).seq = .wait ∧ (pendingWith []).pend = false) ∧
    base.seq ≠ .sh 0 .a ∧ base.seq ≠ .sh 7 .b ∧ base.seq ≠ .sh 7 .c ∧ base.seq ≠ .lt .hi ∧
    base.seq ≠ .lt .lo ∧
    (secondFrame.seq ≠ .wait ∧ ¬ (secondFrame.seq = .sh 0 .a ∧ secondFrame.txb = 0x98)) ∧
    (1 ≤ 9 ∧ 9 ≤ 12 ∧ 40 ≤ 59 ∧
      ¬ (secondFrame.seq = .sh 0 .a ∧ secondFrame.txb = encodeByte 9 40)) := by decide

theorem witness_ShiftBitIsItsThreeSteps :
    secondFrame.seq = .sh 0 .a ∧ (sending 21 (.sh 7 .a) 0x2E).seq = .sh 7 .a := by decide

theorem witness_LatchPulseIsHighThenLow :
    (sending 24 (.lt .hi) 0x97).seq = .lt .hi ∧
    ((sending 23 (.sh 7 .c) 0x2E).edge = none ∧
      (sending 23 (.sh 7 .c) 0x2E).envPoint = .quiet ∧ (sending 23 (.sh 7 .c) 0x2E).seq = .sh 7 .c ∧
      ∃ t, step (sending 23 (.sh 7 .c) 0x2E) = .next t ∧ t.seq = .lt .hi) ∧
    (∃ t, step { sending 24 (.lt .hi) 0x97 with events := [.pulse] } = .next t ∧
      t.seq = .lt .hi) ∧
    secondFrame.seq = .sh 0 .a :=
  ⟨rfl, ⟨rfl, rfl, rfl, _, rfl, rfl⟩, ⟨_, rfl, rfl⟩, rfl⟩

theorem witness_ShiftOutSendsTheFrame :
    base.seq = .wait ∧ (secondFrame.seq = .sh 0 .a ∧ secondFrame.txb = 0x97) := by decide

theorem witness_RefreshIsShiftOutOfEncode :
    (1 ≤ 12 ∧ 12 ≤ 12 ∧ 59 ≤ 59 ∧ base.seq = .wait) ∧
      (1 ≤ 9 ∧ 9 ≤ 12 ∧ 36 ≤ 59 ∧ secondFrame.seq = .sh 0 .a ∧
        secondFrame.txb = encodeByte 9 36) := by decide

theorem witness_TwentySixStepsAreShiftOut :
    secondFrame.seq = .sh 0 .a ∧ secondFrame.edge = none ∧ secondFrame.events = [] := by decide

/-- One state for each clause. -/
theorem witness_FrameTakesOneStepAtATime :
    (secondFrame.edge = none ∧ secondFrame.seq ≠ .wait ∧ secondFrame.envPoint = .quiet ∧
      ∃ t, step secondFrame = .next t) ∧
    (({ latched with events := [.pulse] } : State).envPoint = .pulse ∧
      ∃ t, step { latched with events := [.pulse] } = .next t) ∧
    (({ latched with events := [.resetAndPulse] } : State).envPoint = .resetAndPulse ∧
      ∃ t, step { latched with events := [.resetAndPulse] } = .next t) :=
  ⟨⟨rfl, by decide, rfl, _, rfl⟩, ⟨rfl, _, rfl⟩, rfl, _, rfl⟩

theorem witness_PulseCommutesWithAFrameStep :
    latched.edge = none ∧ latched.seq ≠ .wait ∧ latched.pend = false := by decide

theorem witness_LedsShowHoursTensAndFive :
    1 ≤ 9 ∧ 9 ≤ 12 ∧ 35 ≤ 59 ∧ shown.q = encodeByte 9 35 := by decide

theorem witness_DataIsTheBitAtEveryRisingClockEdge :
    (sending 23 (.sh 7 .c) 0x2E).Inv ∧ (sending 23 (.sh 7 .c) 0x2E).clock = false ∧
      ∃ t, step (sending 23 (.sh 7 .c) 0x2E) = .next t ∧ t.clock = true :=
  ⟨sending_clk_high_inv, rfl, _, rfl, rfl⟩

theorem witness_OutputsChangeOnlyAtTheLatchEdge :
    (∃ t, step (sending 24 (.lt .hi) 0x97) = .next t ∧ t.q ≠ (sending 24 (.lt .hi) 0x97).q) ∧
    (∃ t, step { base with edge := some .latchRise, sr := 0x97 } = .next t ∧ t.q ≠ base.q) :=
  ⟨⟨_, rfl, by decide⟩, _, rfl, by decide⟩

theorem witness_ResetStateMeetsTheInvariant : (testBuild 50).legal ∧ (testBuild 60).legal := by
  decide

/-- The invariant is met in every phase, and steps complete from there. -/
theorem witness_EveryStepKeepsTheInvariant :
    (base.Inv ∧ ∃ t, step base = .next t) ∧
    (latched.Inv ∧ ∃ t, step latched = .next t) ∧
    ((pendingWith [.reset]).Inv ∧ ∃ t, step (pendingWith [.reset]) = .next t) :=
  ⟨⟨base_inv, _, rfl⟩, ⟨latched_inv, _, rfl⟩, pendingWith_inv _, _, rfl⟩

theorem witness_LedsShowTheTimeAtRest :
    latched.Inv ∧ ∃ t, runSteps 1 latched = .next t ∧ t.seq = .wait ∧ t.wt ≠ [] :=
  ⟨latched_inv, _, rfl, rfl, by decide⟩

theorem witness_OnlyAnOverrunStopsARun :
    ((pendingWith [.pulse]).Inv ∧ (pendingWith [.pulse]).envPoint = .pulse ∧
      (pendingWith [.pulse]).pend = true) ∧
    (base.Inv ∧ ¬ (base.envPoint = .pulse ∧ base.pend = true)) :=
  ⟨⟨pendingWith_inv _, rfl, rfl⟩, base_inv, by decide⟩

theorem witness_OnlyATickStartsAFrame :
    ∃ t, step { clockAt 9 34 59 49 with pend := true } = .next t ∧ t.txb ≠ base.txb ∧
      (clockAt 9 34 59 49).seq = .wait ∧ t.seq ≠ .wait :=
  ⟨_, rfl, by decide, rfl, by decide⟩

theorem witness_LaterStagesRunOnlyOnARollover :
    nextInstr { clockAt 11 59 59 49 with pend := true } ≠ .ok .reset ∧
      ∃ t, step { clockAt 11 59 59 49 with pend := true } = .next t ∧ t.tick ≠ 49 ∧ t.sec ≠ 59 ∧
        t.min ≠ 59 ∧ t.hour ≠ 11 :=
  ⟨by decide, _, rfl, by decide⟩

/-- One state for each clause: RESET, the five line-drive steps, and a step that drives nothing. -/
theorem witness_EachLineIsWrittenByItsOwnSteps :
    (nextInstr (pendingWith [.reset]) = .ok .reset ∧
      ∃ t, step (pendingWith [.reset]) = .next t) ∧
    (nextInstr secondFrame = .ok (.clkLow 0) ∧ ∃ t, step secondFrame = .next t) ∧
    (nextInstr (sending 22 (.sh 7 .b) 0x2E) = .ok (.dataSet 7) ∧
      ∃ t, step (sending 22 (.sh 7 .b) 0x2E) = .next t) ∧
    (nextInstr (sending 23 (.sh 7 .c) 0x2E) = .ok (.clkHigh 7) ∧
      ∃ t, step (sending 23 (.sh 7 .c) 0x2E) = .next t) ∧
    (nextInstr (sending 24 (.lt .hi) 0x97) = .ok .latchHigh ∧
      ∃ t, step (sending 24 (.lt .hi) 0x97) = .next t) ∧
    (nextInstr latched = .ok .latchLow ∧ ∃ t, step latched = .next t) ∧
    (nextInstr (pendingWith []) = .ok .tick ∧ ∃ t, step (pendingWith []) = .next t) :=
  ⟨⟨rfl, _, rfl⟩, ⟨rfl, _, rfl⟩, ⟨rfl, _, rfl⟩, ⟨rfl, _, rfl⟩, ⟨rfl, _, rfl⟩, ⟨rfl, _, rfl⟩, rfl,
    _, rfl⟩

theorem witness_NoOperationWritesTheBuild : ∃ t, exec (.refresh 12 59) base = .next t := ⟨_, rfl⟩

theorem witness_TransmitByteIsNotReadAtRest :
    (clockAt 9 34 59 49).seq = .wait ∧
      (∃ t, step { { clockAt 9 34 59 49 with pend := true } with txb := 0x12 } = .next t ∧
        t.seq ≠ .wait) ∧
      ∃ u, step { clockAt 9 34 59 49 with pend := true } = .next u :=
  ⟨rfl, ⟨_, rfl, by decide⟩, _, rfl⟩

theorem witness_SmallStepsAreTheBigStep :
    ({ clockAt 9 34 59 49 with events := [.pulse] } : State).quiet ∧
      ({ clockAt 9 34 59 49 with events := [.pulse] } : State).events = [.pulse] := by decide

theorem witness_ServedPulseSendsTheFrameOfItsTime :
    (clockAt 9 34 59 49).cfg.legal ∧ (clockAt 9 34 59 49).timeOk ∧ (clockAt 9 34 59 49).quiet ∧
      (clockAt 9 34 59 49).latch = false := by decide

theorem witness_PulsesKeepTheTime : shown.cfg.legal ∧ shown.timeOk ∧ shown.quiet := by decide

end Sys2Proof.Tests
end

/-! The ranges of the time registers (rule R25). Of all completed steps only RESET and TICK write a
time register: RESET writes a time that is in range in a legal build, TICK is the cascade, and every
other step leaves the four registers and the build alone. -/

namespace Sys2Proof.Machine

/-- The four time registers and the build of `t` are those of `s`. -/
structure State.SameTime (s t : State) : Prop where
  tick : t.tick = s.tick
  sec  : t.sec = s.sec
  min  : t.min = s.min
  hour : t.hour = s.hour
  cfg  : t.cfg = s.cfg

section
variable {s t : State}

/-- The ranges speak of the time registers and the build only. -/
theorem State.SameTime.timeOk (h : s.SameTime t) (hs : s.timeOk) : t.timeOk := by
  obtain ⟨htick, hsec, hmin, hhour, hcfg⟩ := h
  rw [State.timeOk, htick, hsec, hmin, hhour, hcfg]
  exact hs

/-- A line-drive step changes no time register, wherever the sequencer goes (rule R52). -/
theorem State.sameTime_drive_goTo (L : Line) (v : Bool) (q : Seq) :
    s.SameTime ((s.popEvent.drive L v).goTo q) := by
  constructor <;> simp

/-- The end of a TICK changes no time register, whether or not it starts a frame (rule R107). -/
theorem sameTime_of_finishTick {c : Bool} (h : finishTick s c = .next t) : s.SameTime t := by
  obtain ⟨-, rfl⟩ | ⟨-, -, rfl⟩ := finishTick_eq_next.mp h
  · exact ⟨rfl, rfl, rfl, rfl, rfl⟩
  · exact ⟨rfl, rfl, rfl, rfl, rfl⟩

/-- How a completed step treats the time registers: RESET, the cascade of a TICK, or not at all. -/
theorem Stepped.time_cases (h : Stepped s t) :
    (s.cfg.legal ∧ t = s.popEvent.initialise) ∨
      (tickStage s.popEvent.takeInterrupt).1.SameTime t ∨ s.SameTime t := by
  cases h with
  | reset edge instr event build next => exact .inl ⟨build, next⟩
  | tick edge instr event seq pend next => exact .inr (.inl (sameTime_of_finishTick next))
  | clockEdge edge next => subst next; exact .inr (.inr ⟨rfl, rfl, rfl, rfl, rfl⟩)
  | latchEdge edge next => subst next; exact .inr (.inr ⟨rfl, rfl, rfl, rfl, rfl⟩)
  | pulse edge instr event pend next => subst next; exact .inr (.inr ⟨rfl, rfl, rfl, rfl, rfl⟩)
  | wait edge instr event seq pend next => subst next; exact .inr (.inr ⟨rfl, rfl, rfl, rfl, rfl⟩)
  | clkLow i edge instr event seq next =>
    subst next; exact .inr (.inr (State.sameTime_drive_goTo .clock false _))
  | dataSet i edge instr event seq next =>
    subst next; exact .inr (.inr (State.sameTime_drive_goTo .data _ _))
  | clkHigh i edge instr event seq next =>
    subst next; exact .inr (.inr (State.sameTime_drive_goTo .clock true _))
  | latchHigh edge instr event seq next =>
    subst next; exact .inr (.inr (State.sameTime_drive_goTo .latch true _))
  | latchLow edge instr event seq next =>
    subst next; exact .inr (.inr (State.sameTime_drive_goTo .latch false .wait))

/-- The initial time of a legal build is in range (rules R6, R7, R230). -/
theorem State.initialise_timeOk (h : s.cfg.legal) : s.initialise.timeOk := by
  obtain ⟨⟨hF, -⟩, ⟨hh, hh'⟩, hm, hs⟩ := h
  simp only [State.timeOk, State.initialise, BitVec.ofNat_eq_ofNat,
    BitVec.toNat_ofNat]
  omega

/-- A TICK that completes keeps the ranges (rule R111). -/
theorem execTick_timeOk (hl : s.cfg.legal) (hs : s.timeOk) (h : execTick s = .next t) :
    t.timeOk := by
  by_cases hsel : s.seq = .wait ∧ s.pend = true
  · rw [execTick_selected hsel.1 hsel.2] at h
    exact (sameTime_of_finishTick h).timeOk (tickStage_timeOk s.takeInterrupt hl.1.2 hs)
  · simp [execTick, hsel] at h

/-- No step writes the build (rule R63). -/
theorem Stepped.cfg_eq (h : Stepped s t) : t.cfg = s.cfg := by
  obtain ⟨-, rfl⟩ | hc | hf := h.time_cases
  · rfl
  · exact hc.cfg.trans (tickStage_cfg _)
  · exact hf.cfg

/-- Every completed step of a legal build keeps the ranges. -/
theorem Stepped.timeOk (hl : s.cfg.legal) (hs : s.timeOk) (h : Stepped s t) : t.timeOk := by
  obtain ⟨-, rfl⟩ | hc | hf := h.time_cases
  · exact State.initialise_timeOk (s := s.popEvent) hl
  · exact hc.timeOk (tickStage_timeOk s.popEvent.takeInterrupt hl.1.2 hs)
  · exact hf.timeOk hs

end

/-- Settles O16: RESET writes a time in range, TICK is the cascade, which stays in range, and no
other step writes a time register. -/
theorem timeRegistersStayInRange : Obligations.TimeRegistersStayInRange := by
  unfold Obligations.TimeRegistersStayInRange
  refine ⟨fun s t h => ?reset, fun s t hl hs h => ?tick, fun s t hl hs h => ?step⟩
  case reset =>
    obtain ⟨hl, rfl⟩ := execReset_eq_next.mp h
    exact State.initialise_timeOk hl
  case tick => exact execTick_timeOk hl hs h
  case step =>
    have hst : Stepped s t := stepped_of_step h
    exact ⟨hst.cfg_eq ▸ hl, hst.timeOk hl hs⟩

end Sys2Proof.Machine

/-! The four stages of the cascade (rules R102 to R105), one equation for each branch: a stage rolls
over and performs the next, or it stores the incremented count and changes nothing else. -/

namespace Sys2Proof.Machine

section
variable (s : State)

/-! A count that fits its register is stored exactly, and nothing else is written. -/

theorem State.storeTick_of_fits {v : Nat} (h : v < 2 ^ 6) :
    s.storeTick v = { s with tick := BitVec.ofNat 6 v } := by
  rw [State.storeTick, fitted_of_lt h, overflowUse_of_lt h, Nat.add_zero]

theorem State.storeSec_of_fits {v : Nat} (h : v < 2 ^ 6) :
    s.storeSec v = { s with sec := BitVec.ofNat 6 v } := by
  rw [State.storeSec, fitted_of_lt h, overflowUse_of_lt h, Nat.add_zero]

theorem State.storeMin_of_fits {v : Nat} (h : v < 2 ^ 6) :
    s.storeMin v = { s with min := BitVec.ofNat 6 v } := by
  rw [State.storeMin, fitted_of_lt h, overflowUse_of_lt h, Nat.add_zero]

theorem State.storeHour_of_fits {v : Nat} (h : v < 2 ^ 4) :
    s.storeHour v = { s with hour := BitVec.ofNat 4 v } := by
  rw [State.storeHour, fitted_of_lt h, overflowUse_of_lt h, Nat.add_zero]

/-! A stage performed on its own is its part of the cascade. -/

theorem exec_tickInc : exec .tickInc s = .next (tickStage s).1 := rfl
theorem exec_secInc : exec .secInc s = .next (secStage s).1 := rfl
theorem exec_minInc : exec .minInc s = .next (minStage s) := rfl
theorem exec_hourInc : exec .hourInc s = .next (hourStage s) := rfl

variable {s}

theorem tickStage_of_rollover (h : s.tick.toNat + 1 = s.cfg.mainsHz) :
    tickStage s = secStage { s with tick := 0 } :=
  if_pos h

theorem tickStage_of_no_rollover (h : s.tick.toNat + 1 ≠ s.cfg.mainsHz)
    (hfit : s.tick.toNat + 1 ≤ 63) :
    tickStage s = ({ s with tick := BitVec.ofNat 6 (s.tick.toNat + 1) }, false) := by
  rw [tickStage, if_neg h, State.storeTick_of_fits s (by omega)]

theorem secStage_of_rollover (h : s.sec.toNat = 59) :
    secStage s = (minStage { s with sec := 0 }, true) :=
  if_pos (by omega)

theorem secStage_of_lt (h : s.sec.toNat < 59) :
    secStage s = ({ s with sec := BitVec.ofNat 6 (s.sec.toNat + 1) }, false) := by
  rw [secStage, if_neg (by omega), State.storeSec_of_fits s (by omega)]

theorem minStage_of_rollover (h : s.min.toNat = 59) :
    minStage s = hourStage { s with min := 0 } :=
  if_pos (by omega)

theorem minStage_of_lt (h : s.min.toNat < 59) :
    minStage s = { s with min := BitVec.ofNat 6 (s.min.toNat + 1) } := by
  rw [minStage, if_neg (by omega), State.storeMin_of_fits s (by omega)]

theorem hourStage_of_twelve (h : s.hour.toNat = 12) : hourStage s = { s with hour := 1 } :=
  if_pos (by omega)

theorem hourStage_of_lt (h : s.hour.toNat < 12) :
    hourStage s = { s with hour := BitVec.ofNat 4 (s.hour.toNat + 1) } := by
  rw [hourStage, if_neg (by omega), State.storeHour_of_fits s (by omega)]

end

/-- Settles O10: at `F` the stage is SEC_INC with TICK cleared; below, the count fits and is
stored. -/
theorem tickIncCountsModuloTheMainsFrequency :
    Obligations.TickIncCountsModuloTheMainsFrequency := by
  unfold Obligations.TickIncCountsModuloTheMainsFrequency
  refine fun s => ⟨fun h => ⟨_, exec_secInc _, ?rollover⟩, fun h hfit => ?count⟩
  case rollover => rw [exec_tickInc, tickStage_of_rollover h]
  case count => rw [exec_tickInc, tickStage_of_no_rollover h hfit]

/-- Settles O11: at 59 the stage is MIN_INC with SEC cleared; below, the count fits and is
stored. -/
theorem secIncCarriesAtSixty : Obligations.SecIncCarriesAtSixty := by
  unfold Obligations.SecIncCarriesAtSixty
  refine fun s => ⟨fun h => ⟨_, exec_minInc _, ?rollover⟩, fun h => ?count⟩
  case rollover => rw [exec_secInc, secStage_of_rollover h]
  case count => rw [exec_secInc, secStage_of_lt h]

/-- Settles O12: at 59 the stage is HOUR_INC with MIN cleared, which HOUR_INC leaves so; below, the
count fits and is stored. The flag is `tickStage_changed`. -/
theorem minIncCarriesAtSixty : Obligations.MinIncCarriesAtSixty := by
  unfold Obligations.MinIncCarriesAtSixty
  refine fun s => ⟨fun h => ⟨_, exec_hourInc _, ?rollover, hourStage_min _⟩, fun h => ?count,
    tickStage_changed s⟩
  case rollover => rw [exec_minInc, minStage_of_rollover h]
  case count => rw [exec_minInc, minStage_of_lt h]

/-- Settles O13: 12 is followed by 1, and every smaller hour by the next, which fits. -/
theorem hourWheelWrapsTwelveToOne : Obligations.HourWheelWrapsTwelveToOne := by
  unfold Obligations.HourWheelWrapsTwelveToOne
  refine fun s => ⟨fun h => ?twelve, fun h => ?next⟩
  case twelve => rw [exec_hourInc, hourStage_of_twelve h]
  case next => rw [exec_hourInc, hourStage_of_lt h]

end Sys2Proof.Machine

/-! The bit-serial driver (42_shift_out.md): the state each sequence leaves, as a composition of
drives, with what it wrote and where the sequencer stands. -/

namespace Sys2Proof.Machine

section
variable {s t : State} {i : BitIndex} {b : Byte}

/-! ## One bit slot -/

/-- What bit slot `i` makes of a state (rule R152). -/
def State.afterSlot (i : BitIndex) (s : State) : State :=
  let low := (s.drive .clock false).goTo (.sh i .b)
  let set := (low.drive .data (bitOf low.txb i)).goTo (.sh i .c)
  (set.drive .clock true).goTo (afterClkHigh i)

@[simp] theorem State.afterSlot_seq : (s.afterSlot i).seq = afterClkHigh i := rfl

@[simp] theorem State.afterSlot_txb : (s.afterSlot i).txb = s.txb := by simp [State.afterSlot]

@[simp] theorem State.afterSlot_wt : (s.afterSlot i).wt = s.wt ++ slotEvents s.txb i := by
  simp [State.afterSlot, slotEvents, bitOf]

/-- The three steps of a bit slot, each where the one before left the sequencer. -/
theorem slotSteps (h : s.seq = .sh i .a) :
    ∃ u v, execClkLow i s = .next u ∧ execDataSet i u = .next v ∧
      execClkHigh i v = .next (s.afterSlot i) :=
  ⟨_, _, execClkLow_selected h, execDataSet_selected rfl, execClkHigh_selected rfl⟩

theorem execShiftBit_selected (h : s.seq = .sh i .a) :
    execShiftBit i s = .next (s.afterSlot i) := by
  obtain ⟨u, v, hlow, hset, hhigh⟩ := slotSteps h
  rw [execShiftBit, hlow, andThen_next, hset, andThen_next, hhigh]

/-- No write of a bit slot is to the latch. -/
theorem line_ne_latch_of_mem_slotEvents {e : WireEvent} (h : e ∈ slotEvents b i) :
    e.line ≠ .latch := by
  simp only [slotEvents, List.mem_cons, List.not_mem_nil, or_false] at h
  obtain rfl | rfl | rfl := h <;> exact Line.noConfusion

/-! ## Several bit slots -/

/-- The sequencer goes from `q` to `r` through the bit slots `is`, each starting where the one
before ends (rules R151, R155). -/
def slotsLead (q : Seq) : List BitIndex → Seq → Prop
  | [], r => q = r
  | i :: is, r => q = .sh i .a ∧ slotsLead (afterClkHigh i) is r

/-- The eight slots of a frame lead to the latch pulse. -/
theorem slotsLead_allBits : slotsLead (.sh 0 .a) allBits (.lt .hi) := by
  simp [slotsLead, allBits, afterClkHigh]

/-- What the bit slots `is`, one after the other, make of a state (rule R151). -/
def State.afterSlots : List BitIndex → State → State
  | [], s => s
  | i :: is, s => (s.afterSlot i).afterSlots is

theorem State.afterSlots_seq {is : List BitIndex} {r : Seq} (h : slotsLead s.seq is r) :
    (s.afterSlots is).seq = r := by
  induction is generalizing s with
  | nil => exact h
  | cons i is ih =>
    obtain ⟨-, hrest⟩ := h
    exact ih (s := s.afterSlot i) hrest

theorem State.afterSlots_wt (is : List BitIndex) :
    (s.afterSlots is).wt = s.wt ++ is.flatMap (slotEvents s.txb) := by
  induction is generalizing s with
  | nil => simp [State.afterSlots]
  | cons i is ih => simp [State.afterSlots, ih]

/-- Bit slots that lead on from where the sequencer stands complete. -/
theorem shiftBits_of_slotsLead {is : List BitIndex} {r : Seq} (h : slotsLead s.seq is r) :
    shiftBits is s = .next (s.afterSlots is) := by
  induction is generalizing s with
  | nil => rfl
  | cons i is ih =>
    obtain ⟨hstart, hrest⟩ := h
    rw [shiftBits, execShiftBit_selected hstart, andThen_next, ih (s := s.afterSlot i) hrest,
      State.afterSlots]

/-! ## The latch pulse and the whole frame -/

/-- What the latch pulse makes of a state (rule R156). -/
def State.afterLatchPulse (s : State) : State :=
  (((s.drive .latch true).goTo (.lt .lo)).drive .latch false).returnFromInterrupt

@[simp] theorem State.afterLatchPulse_seq : s.afterLatchPulse.seq = .wait := rfl

@[simp] theorem State.afterLatchPulse_wt :
    s.afterLatchPulse.wt = s.wt ++ [⟨.latch, true⟩, ⟨.latch, false⟩] := by
  simp [State.afterLatchPulse]

/-- The two steps of the latch pulse. -/
theorem latchPulseSteps (h : s.seq = .lt .hi) :
    ∃ u, execLatchHigh s = .next u ∧ execLatchLow u = .next s.afterLatchPulse :=
  ⟨_, execLatchHigh_selected h, execLatchLow_selected rfl⟩

theorem execLatchPulse_selected (h : s.seq = .lt .hi) :
    execLatchPulse s = .next s.afterLatchPulse := by
  obtain ⟨u, hhigh, hlow⟩ := latchPulseSteps h
  rw [execLatchPulse, hhigh, andThen_next, hlow]

/-- A frame that may start completes: its eight slots, then its latch pulse. -/
theorem execShiftOut_of_mayStart (h : s.frameMayStart b = true) :
    execShiftOut b s = .next ((s.startFrame b).afterSlots allBits).afterLatchPulse := by
  have hslots : slotsLead (s.startFrame b).seq allBits (.lt .hi) := slotsLead_allBits
  rw [execShiftOut, if_pos h, shiftBits_of_slotsLead hslots, andThen_next,
    execLatchPulse_selected (State.afterSlots_seq hslots)]

/-- The writes of a frame: those of its eight slots, then those of its latch pulse. -/
theorem wt_of_frame :
    ((s.startFrame b).afterSlots allBits).afterLatchPulse.wt =
      s.wt ++ allBits.flatMap (slotEvents b) ++ [⟨.latch, true⟩, ⟨.latch, false⟩] := by
  simp [State.afterSlots_wt]

theorem frameMayStart_of_firstStep (h : s.seq = .sh 0 .a) : s.frameMayStart s.txb = true := by
  simp [State.frameMayStart, h]

/-! ## What leads to the latch pulse -/

/-- Only the last bit is followed by the latch pulse: the index does not wrap (rule R155). -/
theorem afterClkHigh_eq_latchHigh : afterClkHigh i = .lt .hi ↔ i = 7 := by
  revert i; decide

/-- The end of a TICK leaves the sequencer or starts a frame (rule R171). -/
theorem seq_of_finishTick {c : Bool} (h : finishTick s c = .next t) :
    t.seq = s.seq ∨ t.seq = .sh 0 .a := by
  obtain ⟨-, rfl⟩ | ⟨-, -, rfl⟩ := finishTick_eq_next.mp h
  · exact .inl rfl
  · exact .inr rfl

/-- A completed step without an edge that ends at `LT(hi)` was the last clock edge of bit 7, or a
PULSE that found the block there. -/
theorem Stepped.seq_of_latchHigh (h : Stepped s t) (he : s.edge = none) (ht : t.seq = .lt .hi) :
    s.seq = .sh 7 .c ∨ (s.seq = .lt .hi ∧ s.envPoint = .pulse) := by
  cases h with
  | clkHigh i edge instr event seq next =>
    subst next
    exact .inl (afterClkHigh_eq_latchHigh.mp ht ▸ seq)
  | pulse edge instr event pend next => subst next; exact .inr ⟨ht, event⟩
  | clockEdge edge next
  | latchEdge edge next => exact nomatch he.symm.trans edge
  | wait edge instr event seq pend next => subst next; exact nomatch seq.symm.trans ht
  | tick edge instr event seq pend next =>
    obtain hkept | hframe := seq_of_finishTick next
    · have hwait : t.seq = .wait := by simpa [seq] using hkept
      exact nomatch hwait.symm.trans ht
    · exact nomatch hframe.symm.trans ht
  | reset edge instr event build next
  | clkLow i edge instr event seq next
  | dataSet i edge instr event seq next
  | latchHigh edge instr event seq next
  | latchLow edge instr event seq next => subst next; nomatch ht

/-! ## The clock where a bit slot starts -/

/-- Between the bits of a frame the clock is high. Before the first bit it is low when nothing has
been written since RESET, and otherwise high, as the frame before left it (rules R39, R155,
R159). -/
theorem State.Inv.clock_of_slotStart (hs : s.Inv) (h : s.seq = .sh i .a) :
    (i ≠ 0 → s.clock = true) ∧ (i = 0 → (s.clock = true ↔ s.wt ≠ [])) := by
  have hlines := hs.lines
  simp only [State.linesOk, h] at hlines
  obtain ⟨-, hfirst, hlater⟩ := hlines
  refine ⟨fun hi => (hlater hi).2, fun hi => ⟨fun hclock hwt => ?_, (hfirst hi).2⟩⟩
  have hlow : s.clock = false := ((hfirst hi).1 hwt).2
  exact Bool.false_ne_true (hlow.symm.trans hclock)

end

/-- Settles O34: the latch pulse is its two steps; `afterClkHigh 7` is `LT(hi)`, and of all
completed steps only CLK_HIGH at bit 7 moves the sequencer there; a frame is eight slots, none of
which writes the latch, and then one pulse. -/
theorem latchPulseIsHighThenLow : Obligations.LatchPulseIsHighThenLow := by
  unfold Obligations.LatchPulseIsHighThenLow
  refine ⟨fun s h => ?pulse, fun s he hq h => ?leads, fun s t he hstep ht => ?only,
    fun s h => ?frame⟩
  case pulse =>
    obtain ⟨u, hhigh, hlow⟩ := latchPulseSteps h
    exact ⟨u, s.afterLatchPulse, hhigh, hlow, execLatchPulse_selected h,
      State.afterLatchPulse_seq, State.afterLatchPulse_wt⟩
  case leads =>
    rw [step_of_no_edge s he, hq, h]
    exact ⟨_, execClkHigh_selected (s := s.popEvent) h, rfl⟩
  case only => exact (stepped_of_step hstep).seq_of_latchHigh he ht
  case frame =>
    refine ⟨_, allBits.flatMap (slotEvents s.txb),
      execShiftOut_of_mayStart (frameMayStart_of_firstStep h), State.afterLatchPulse_seq,
      wt_of_frame, rfl, fun e hmem => ?_⟩
    obtain ⟨i, -, hslot⟩ := List.mem_flatMap.mp hmem
    exact line_ne_latch_of_mem_slotEvents hslot

/-- Settles O27: the effect is that of driving CLOCK low; the levels are those the invariant gives
at the start of a slot. -/
theorem clkLowDrivesTheClockLow : Obligations.ClkLowDrivesTheClockLow := by
  unfold Obligations.ClkLowDrivesTheClockLow
  refine fun i s h => ⟨?effect, fun hs => (hs.clock_of_slotStart h).1,
    fun hs => (hs.clock_of_slotStart h).2⟩
  case effect => rw [exec, execClkLow_selected h, State.drive_clock_low, State.goTo]

/-- Settles O33: each of the three steps leaves the sequencer where the next is selected. -/
theorem shiftBitIsItsThreeSteps : Obligations.ShiftBitIsItsThreeSteps := by
  unfold Obligations.ShiftBitIsItsThreeSteps
  intro i s h
  obtain ⟨u, v, hlow, hset, hhigh⟩ := slotSteps h
  exact ⟨u, v, s.afterSlot i, hlow, hset, hhigh, execShiftBit_selected h, State.afterSlot_wt⟩

end Sys2Proof.Machine

/-! The words of the opcode table (30_encoding.md): the encoder and the decoder agree, the decoder
reads exactly the bits under an operation's mask, and a word placed in a state is the one the next
step selects by. -/

namespace Sys2Proof

section
variable {i : Instr} {c : CodeWord} {v w : Selector}

/-! ## The decoder reads the encoder's words back -/

theorem decode_of_encode (h : encode i = some c) : decode c = .ok i := by
  cases i with
  | clkLow k | dataSet k | clkHigh k => cases h; revert k; decide
  | reset | pulse | tick | wait | latchHigh | latchLow | srShift | srLatch => cases h; rfl
  | tickInc | secInc | minInc | hourInc | encode _ _ | tens _ | five _ | refresh _ _ | shiftOut _
  | shiftBit _ | latchPulse => exact nomatch h

theorem isSome_encode : (encode i).isSome = i.selectable := by cases i <;> rfl

/-! ## The fields of a selector word -/

/-- The five fields of a selector word (rule R76). -/
def fields (w : Selector) : BitVec 2 × Bool × BitVec 2 × BitVec 3 × BitVec 2 :=
  (fieldEV w, fieldPend w, fieldPP w, fieldIII w, fieldSS w)

/-- The five fields are the whole word. -/
theorem fields_injective : Function.Injective fields := by
  intro v w h
  simp only [fields, Prod.mk.injEq] at h
  obtain ⟨hev, hpend, hpp, hiii, hss⟩ := h
  refine BitVec.eq_of_getLsbD_eq fun k hk => ?_
  have bit {n m : Nat} (h : v.extractLsb' n m = w.extractLsb' n m) (hlo : n ≤ k) (hhi : k < n + m) :
      v.getLsbD k = w.getLsbD k := by
    have hbit := congrArg (·.getLsbD (k - n)) h
    have hlt : k - n < m := by omega
    simpa [hlt, Nat.add_sub_cancel' hlo] using hbit
  obtain h | h | h | h | h : k < 2 ∨ (2 ≤ k ∧ k < 5) ∨ (5 ≤ k ∧ k < 7) ∨ k = 7 ∨ 8 ≤ k := by omega
  · exact bit hss (Nat.zero_le k) h
  · exact bit hiii h.1 h.2
  · exact bit hpp h.1 h.2
  · exact h ▸ hpend
  · exact bit hev h hk

theorem fields_and :
    fields (v &&& w) = (fieldEV v &&& fieldEV w, fieldPend v && fieldPend w,
      fieldPP v &&& fieldPP w, fieldIII v &&& fieldIII w, fieldSS v &&& fieldSS w) := by
  simp only [fields, fieldEV, fieldPend, fieldPP, fieldIII, fieldSS, BitVec.extractLsb'_and,
    BitVec.getLsbD_and]

/-! What the masks of the opcode table keep: EV alone, all but PEND, or everything. -/

theorem fields_and_eventMask : fields (w &&& 0x300) = (fieldEV w, false, 0, 0, 0) := by
  have hmask : fields 0x300 = (BitVec.allOnes 2, false, 0#2, 0#3, 0#2) := rfl
  simp only [fields, Prod.mk.injEq] at hmask
  simp only [fields_and, hmask, BitVec.and_allOnes, Bool.and_false, BitVec.and_zero]
  rfl

theorem fields_and_frameMask :
    fields (w &&& 0x37F) = (fieldEV w, false, fieldPP w, fieldIII w, fieldSS w) := by
  have hmask : fields 0x37F =
      (BitVec.allOnes 2, false, BitVec.allOnes 2, BitVec.allOnes 3, BitVec.allOnes 2) := rfl
  simp only [fields, Prod.mk.injEq] at hmask
  simp only [fields_and, hmask, BitVec.and_allOnes, Bool.and_false]

theorem and_fullMask : w &&& 0x3FF = w := BitVec.and_allOnes

/-! The fields of the patterns. -/

theorem fields_reset : fields 0x200 = (2, false, 0, 0, 0) := rfl
theorem fields_pulse : fields 0x100 = (1, false, 0, 0, 0) := rfl
theorem fields_tick : fields 0x080 = (0, true, 0, 0, 0) := rfl
theorem fields_wait : fields 0x000 = (0, false, 0, 0, 0) := rfl
theorem fields_latchHigh : fields 0x040 = (0, false, 2, 0, 0) := rfl
theorem fields_latchLow : fields 0x041 = (0, false, 2, 0, 1) := rfl

theorem fields_clkLow (k : BitIndex) :
    fields (0x020 + BitVec.ofNat 10 (4 * k.val)) = (0, false, 1, iiiOf k, 0) := by
  revert k; decide

theorem fields_dataSet (k : BitIndex) :
    fields (0x021 + BitVec.ofNat 10 (4 * k.val)) = (0, false, 1, iiiOf k, 1) := by
  revert k; decide

theorem fields_clkHigh (k : BitIndex) :
    fields (0x022 + BitVec.ofNat 10 (4 * k.val)) = (0, false, 1, iiiOf k, 2) := by
  revert k; decide

theorem indexOf_eq_iff {k : BitIndex} {x : BitVec 3} : indexOf x = k ↔ iiiOf k = x := by
  revert k x; decide

/-! ## The decoder by mask and pattern -/

/-- The fields of the words that select an operation (rules R76, R77). -/
def rowFields (w : Selector) : Instr → Prop
  | .reset => fieldEV w = 2
  | .pulse => fieldEV w = 1
  | .tick => fields w = (0, true, 0, 0, 0)
  | .wait => fields w = (0, false, 0, 0, 0)
  | .clkLow k => fieldEV w = 0 ∧ fieldPP w = 1 ∧ fieldIII w = iiiOf k ∧ fieldSS w = 0
  | .dataSet k => fieldEV w = 0 ∧ fieldPP w = 1 ∧ fieldIII w = iiiOf k ∧ fieldSS w = 1
  | .clkHigh k => fieldEV w = 0 ∧ fieldPP w = 1 ∧ fieldIII w = iiiOf k ∧ fieldSS w = 2
  | .latchHigh => fieldEV w = 0 ∧ fieldPP w = 2 ∧ fieldIII w = 0 ∧ fieldSS w = 0
  | .latchLow => fieldEV w = 0 ∧ fieldPP w = 2 ∧ fieldIII w = 0 ∧ fieldSS w = 1
  | _ => False

/-- Each branch of the decoder that answers an operation has tested the fields of its row. -/
theorem rowFields_of_decodeSelector (h : decodeSelector w = .ok i) : rowFields w i := by
  simp only [decodeSelector, decodeQuiet, decodeWait, decodeShift, decodeLatch] at h
  split_ifs at h <;> cases h <;> simp_all [rowFields, fields, indexOf_eq_iff.mp rfl]

theorem decodeSelector_of_rowFields (h : rowFields w i) : decodeSelector w = .ok i := by
  cases i with
  | reset | pulse =>
    rw [rowFields] at h
    simp [decodeSelector, h]
  | tick | wait =>
    simp only [rowFields, fields, Prod.mk.injEq] at h
    simp [decodeSelector, decodeQuiet, decodeWait, h]
  | clkLow k | dataSet k | clkHigh k =>
    rw [rowFields] at h
    simp [decodeSelector, decodeQuiet, decodeShift, h, indexOf_eq_iff]
  | latchHigh | latchLow =>
    rw [rowFields] at h
    simp [decodeSelector, decodeQuiet, decodeLatch, h]
  | srShift | srLatch | tickInc | secInc | minInc | hourInc | encode _ _ | tens _ | five _
  | refresh _ _ | shiftOut _ | shiftBit _ | latchPulse => exact h.elim

/-- The words with the fields of a row are those that have its pattern under its mask. -/
theorem rowFields_iff : rowFields w i ↔ encode i = some (.selector (w &&& selectorMask i)) := by
  cases i with
  | reset | pulse =>
    simp only [rowFields, encode, selectorMask, Option.some.injEq, CodeWord.selector.injEq,
      ← fields_injective.eq_iff, fields_reset, fields_pulse, fields_and_eventMask, Prod.mk.injEq,
      and_true, eq_comm]
  | tick | wait =>
    simp only [rowFields, encode, selectorMask, Option.some.injEq, CodeWord.selector.injEq,
      ← fields_injective.eq_iff, fields_tick, fields_wait, and_fullMask, eq_comm]
  | clkLow k | dataSet k | clkHigh k | latchHigh | latchLow =>
    simp only [rowFields, encode, selectorMask, Option.some.injEq, CodeWord.selector.injEq,
      ← fields_injective.eq_iff, fields_clkLow, fields_dataSet, fields_clkHigh, fields_latchHigh,
      fields_latchLow, fields_and_frameMask, Prod.mk.injEq, true_and, eq_comm]
  | srShift | srLatch | tickInc | secInc | minInc | hourInc | encode _ _ | tens _ | five _
  | refresh _ _ | shiftOut _ | shiftBit _ | latchPulse => simp [rowFields, encode]

theorem decodeSelector_eq_ok_iff :
    decodeSelector w = .ok i ↔ encode i = some (.selector (w &&& selectorMask i)) :=
  ⟨fun h => rowFields_iff.mp (rowFields_of_decodeSelector h),
    fun h => decodeSelector_of_rowFields (rowFields_iff.mpr h)⟩

end
end Sys2Proof

namespace Sys2Proof.Machine

section
variable {i : Instr} {w : Selector} {c : TraceCode} {s : State}

/-! ## The word a state selects by -/

theorem fieldEV_append (x : BitVec 2) (y : BitVec 1) (z : BitVec 7) : fieldEV (x ++ y ++ z) = x :=
  (BitVec.extractLsb'_append_eq_of_le (xhi := x ++ y) (xlo := z) (by decide)).trans
    BitVec.extractLsb'_append_eq_left

theorem fieldPend_append (x : BitVec 2) (p : Bool) (z : BitVec 7) :
    fieldPend (x ++ BitVec.ofBool p ++ z) = p :=
  (BitVec.getLsbD_append (x := x ++ BitVec.ofBool p) (y := z)).trans
    ((BitVec.getLsbD_append (x := x) (y := BitVec.ofBool p)).trans (by simp))

/-- A selector word made of the codes of a point of the run is placed as that point. -/
theorem placeSelector_codes (e : EnvPoint) (p : Bool) (q : Seq) (he : e ≠ .resetAndPulse) :
    placeSelector (e.code ++ BitVec.ofBool p ++ q.code) s =
      { s with events := e :: s.events, pend := p, seq := q, edge := none } := by
  have hev : envOfCode (fieldEV (e.code ++ BitVec.ofBool p ++ q.code)) = some e := by
    rw [fieldEV_append]; revert he; cases e <;> decide
  have hseq :
      seqOfCode ((e.code ++ BitVec.ofBool p ++ q.code : Selector).extractLsb' 0 7) = some q :=
    (congrArg seqOfCode BitVec.extractLsb'_append_eq_right).trans (seqOfCode_code q)
  rw [placeSelector, hev, hseq, fieldPend_append]
  rfl

/-- The word of an operation is made of the codes of a point of the run that selects it. -/
theorem codes_of_encode (h : encode i = some (.selector w)) :
    ∃ (e : EnvPoint) (p : Bool) (q : Seq), e ≠ .resetAndPulse ∧
      w = e.code ++ BitVec.ofBool p ++ q.code ∧ e.instr q p = i := by
  cases i with
  | reset => cases h; exact ⟨.reset, false, .wait, by decide, rfl, rfl⟩
  | pulse => cases h; exact ⟨.pulse, false, .wait, by decide, rfl, rfl⟩
  | tick => cases h; exact ⟨.quiet, true, .wait, by decide, rfl, rfl⟩
  | wait => cases h; exact ⟨.quiet, false, .wait, by decide, rfl, rfl⟩
  | clkLow k => cases h; exact ⟨.quiet, false, .sh k .a, by decide, by revert k; decide, rfl⟩
  | dataSet k => cases h; exact ⟨.quiet, false, .sh k .b, by decide, by revert k; decide, rfl⟩
  | clkHigh k => cases h; exact ⟨.quiet, false, .sh k .c, by decide, by revert k; decide, rfl⟩
  | latchHigh => cases h; exact ⟨.quiet, false, .lt .hi, by decide, rfl, rfl⟩
  | latchLow => cases h; exact ⟨.quiet, false, .lt .lo, by decide, rfl, rfl⟩
  | srShift | srLatch | tickInc | secInc | minInc | hourInc | encode _ _ | tens _ | five _
  | refresh _ _ | shiftOut _ | shiftBit _ | latchPulse => exact nomatch h

/-- The step that performs a given operation. -/
theorem step_of_instr (he : s.edge = none) (hi : s.envPoint.instr s.seq s.pend = i) :
    step s = exec i s.popEvent :=
  hi ▸ step_of_no_edge s he

/-! A word of a row is placed by its own number (log entry 9). -/

theorem withFetchWord_selector : s.withFetchWord 16 w.toNat = placeSelector w s := by
  have hw : codeWordOfTable 16 w.toNat = .ok (.selector w) := by
    simp [codeWordOfTable, w.isLt]
  rw [State.withFetchWord, placeTableWord, hw]

theorem withFetchWord_trace : s.withFetchWord 8 c.toNat = placeTrace c s := by
  have hc : codeWordOfTable 8 c.toNat = .ok (.trace c) := by
    simp [codeWordOfTable, c.isLt]
  rw [State.withFetchWord, placeTableWord, hc]

/-- A placed selector word is performed next, its environment point used up. -/
theorem step_placeSelector (h : encode i = some (.selector w)) :
    step (placeSelector w s) = exec i { placeSelector w s with events := s.events } := by
  obtain ⟨e, p, q, he, rfl, rfl⟩ := codes_of_encode h
  rw [placeSelector_codes e p q he]
  exact step_of_no_edge _ rfl

/-- A placed write-event code is performed next. -/
theorem step_placeTrace (h : encode i = some (.trace c)) :
    step (placeTrace c s) = exec i (placeTrace c s) := by
  cases i with
  | srShift => cases h; exact step_of_edge _ .clockRise rfl
  | srLatch => cases h; exact step_of_edge _ .latchRise rfl
  | _ => exact nomatch h

end

/-- Settles O1: every operation with a word is decoded from that word, and the operations with a
word are those of the selectable kinds. -/
theorem decodeReadsBackEveryEncodedOperation :
    Obligations.DecodeReadsBackEveryEncodedOperation := by
  unfold Obligations.DecodeReadsBackEveryEncodedOperation
  exact ⟨fun i c h => decode_of_encode h, fun i => isSome_encode⟩

/-- Settles O2: the words that decode to an operation and the words with its pattern under its mask
are those with the same fields. -/
theorem selectorWordsDecodeByMaskAndPattern :
    Obligations.SelectorWordsDecodeByMaskAndPattern := by
  unfold Obligations.SelectorWordsDecodeByMaskAndPattern
  intro w i
  rw [decodeSelector_eq_ok_iff]
  exact ⟨fun h => ⟨_, h, rfl⟩, fun ⟨v, h, hv⟩ => hv ▸ h⟩

/-- Settles O3: each of the written words is decoded as the table says. -/
theorem wordsWrittenFromTheTableDecode : Obligations.WordsWrittenFromTheTableDecode := by
  unfold Obligations.WordsWrittenFromTheTableDecode
  decide

/-- Settles O4: without an edge every word a state can have decodes to the operation of its point of
the run; with one, to the reaction. -/
theorem stepPerformsTheSelectedOperation : Obligations.StepPerformsTheSelectedOperation := by
  unfold Obligations.StepPerformsTheSelectedOperation
  refine fun s i => ⟨fun he h => ?noEdge, fun d he h => ?edge⟩
  case noEdge =>
    cases h.symm.trans (decodeSelector_codes s.envPoint s.seq s.pend)
    exact step_of_no_edge s he
  case edge =>
    have hn : nextInstr s = .ok i := by rw [nextInstr, fetched, he]; exact h
    cases hn.symm.trans (nextInstr_of_edge s d he)
    exact step_of_edge s d he

/-- Settles O5: the operation of each point of a run, event before sequencer. -/
theorem stepSelectsByEventThenBySequencer : Obligations.StepSelectsByEventThenBySequencer := by
  unfold Obligations.StepSelectsByEventThenBySequencer
  refine fun s he => ⟨fun hv => ?reset, fun hv => step_of_instr he (by rw [hv]; rfl),
    fun hv => ?quiet⟩
  case reset => obtain hv | hv := hv <;> exact step_of_instr he (by rw [hv]; rfl)
  case quiet =>
    exact ⟨fun hq hp => step_of_instr he (by rw [hv, hq, hp]; rfl),
      fun hq hp => step_of_instr he (by rw [hv, hq, hp]; rfl),
      fun i hq => step_of_instr he (by rw [hv, hq]; rfl),
      fun i hq => step_of_instr he (by rw [hv, hq]; rfl),
      fun i hq => step_of_instr he (by rw [hv, hq]; rfl),
      fun hq => step_of_instr he (by rw [hv, hq]; rfl),
      fun hq => step_of_instr he (by rw [hv, hq]; rfl)⟩

/-- Settles O6: a row's word is placed as a point of the run that selects the row's operation, or
as an edge the shift register reacts to. -/
theorem placedWordIsPerformedNext : Obligations.PlacedWordIsPerformedNext := by
  unfold Obligations.PlacedWordIsPerformedNext
  refine fun s i => ⟨fun w h => ?selector, fun c h => ?trace⟩
  case selector => rw [withFetchWord_selector]; exact step_placeSelector h
  case trace => rw [withFetchWord_trace]; exact step_placeTrace h

end Sys2Proof.Machine

/-! The input events and the Timekeeper (40_timekeeper.md, 70_reset_and_hazards.md): what an
increment that does not fit does, the cascade as a closed form, and what a TICK makes of the
state. -/

namespace Sys2Proof

/-- A legal mains frequency fits the tick counter (rules R6, R21). -/
theorem Params.legal.mainsHz_le {p : Params} (h : p.legal) : p.mainsHz ≤ 63 := h.1.2

end Sys2Proof

namespace Sys2Proof.Machine

section
variable {s t : State}

/-! ## The input events -/

theorem execReset_illegal (h : ¬ s.cfg.legal) : execReset s = .refused .badConfig := if_neg h

theorem execPulse_overrun (h : s.pend = true) : execPulse s = .refused .pulseOverrun := if_pos h

/-! ## An increment that does not fit its register -/

theorem fitted_of_ge {w v : Nat} (h : 2 ^ w ≤ v) (n : Nat) :
    fitted w v n = Config.freeValue w n := if_neg (Nat.not_lt.mpr h)

theorem overflowUse_of_ge {w v : Nat} (h : 2 ^ w ≤ v) : overflowUse w v = 1 :=
  if_neg (Nat.not_lt.mpr h)

theorem tickStage_of_overflow (h : s.tick.toNat = 63) (hF : s.cfg.mainsHz ≠ 64) :
    (tickStage s).1 = { s with tick := Config.freeValue 6 s.free, free := s.free + 1 } := by
  rw [tickStage, if_neg (by omega), State.storeTick, fitted_of_ge (by omega),
    overflowUse_of_ge (by omega)]

theorem secStage_of_overflow (h : s.sec.toNat = 63) :
    (secStage s).1 = { s with sec := Config.freeValue 6 s.free, free := s.free + 1 } := by
  rw [secStage, if_neg (by omega), State.storeSec, fitted_of_ge (by omega),
    overflowUse_of_ge (by omega)]

theorem minStage_of_overflow (h : s.min.toNat = 63) :
    minStage s = { s with min := Config.freeValue 6 s.free, free := s.free + 1 } := by
  rw [minStage, if_neg (by omega), State.storeMin, fitted_of_ge (by omega),
    overflowUse_of_ge (by omega)]

theorem hourStage_of_overflow (h : s.hour.toNat = 15) :
    hourStage s = { s with hour := Config.freeValue 4 s.free, free := s.free + 1 } := by
  rw [hourStage, if_neg (by omega), State.storeHour, fitted_of_ge (by omega),
    overflowUse_of_ge (by omega)]

/-! ## What the stages leave alone, as one equation each (rules R102 to R105) -/

theorem hourStage_frame :
    hourStage s = { s with hour := (hourStage s).hour, free := (hourStage s).free } := by
  unfold hourStage; split <;> rfl

theorem minStage_frame :
    minStage s = { s with
      min := (minStage s).min, hour := (minStage s).hour, free := (minStage s).free } := by
  unfold minStage
  split
  · rw [hourStage_frame]
  · rfl

theorem secStage_frame :
    (secStage s).1 = { s with
      sec := (secStage s).1.sec, min := (secStage s).1.min, hour := (secStage s).1.hour,
      free := (secStage s).1.free } := by
  unfold secStage
  split
  · rw [minStage_frame]
  · rfl

theorem tickStage_frame :
    (tickStage s).1 = { s with
      tick := (tickStage s).1.tick, sec := (tickStage s).1.sec, min := (tickStage s).1.min,
      hour := (tickStage s).1.hour, free := (tickStage s).1.free } := by
  unfold tickStage
  split
  · rw [secStage_frame]
  · rfl

/-! ## The cascade by where it ends -/

/-- What a TICK from `s` in range makes of the four registers, with its `minute_changed`, by the
last stage it performs (rules R102 to R106). -/
inductive Cascade (s t : State) : Bool → Prop where
  | tick (more : s.tick.toNat + 1 < s.cfg.mainsHz) (tick : t.tick.toNat = s.tick.toNat + 1)
      (sec : t.sec.toNat = s.sec.toNat) (min : t.min.toNat = s.min.toNat)
      (hour : t.hour.toNat = s.hour.toNat) : Cascade s t false
  | sec (rolled : s.tick.toNat + 1 = s.cfg.mainsHz) (more : s.sec.toNat < 59)
      (tick : t.tick.toNat = 0) (sec : t.sec.toNat = s.sec.toNat + 1)
      (min : t.min.toNat = s.min.toNat) (hour : t.hour.toNat = s.hour.toNat) : Cascade s t false
  | min (rolled : s.tick.toNat + 1 = s.cfg.mainsHz) (rolledSec : s.sec.toNat = 59)
      (more : s.min.toNat < 59) (tick : t.tick.toNat = 0) (sec : t.sec.toNat = 0)
      (min : t.min.toNat = s.min.toNat + 1) (hour : t.hour.toNat = s.hour.toNat) : Cascade s t true
  | hour (rolled : s.tick.toNat + 1 = s.cfg.mainsHz) (rolledSec : s.sec.toNat = 59)
      (rolledMin : s.min.toNat = 59) (tick : t.tick.toNat = 0) (sec : t.sec.toNat = 0)
      (min : t.min.toNat = 0) (hour : t.hour.toNat = s.hour.toNat % 12 + 1) : Cascade s t true

theorem cascade_tickStage (hF : s.cfg.mainsHz ≤ 63) (hs : s.timeOk) :
    Cascade s (tickStage s).1 (tickStage s).2 := by
  obtain ⟨vtick, vsec, vmin, vhour, -⟩ := tickStage_values s hF hs
  have hchanged := tickStage_changed s
  obtain ⟨htick, hsec, hmin, h1, hhour⟩ := hs
  by_cases hroll : s.tick.toNat + 1 = s.cfg.mainsHz
  · by_cases h59 : s.sec.toNat = 59
    · have hc : (tickStage s).2 = true := hchanged.mpr ⟨hroll, by omega⟩
      rw [hc]
      by_cases hm59 : s.min.toNat = 59
      · simp only [hroll, h59, hm59, and_self, if_true] at vtick vsec vmin vhour
        refine .hour hroll h59 hm59 vtick vsec vmin ?_
        split at vhour <;> omega
      · simp only [hroll, h59, hm59, and_false, and_self, if_true, if_false]
          at vtick vsec vmin vhour
        exact .min hroll h59 (by omega) vtick vsec vmin vhour
    · have hc : (tickStage s).2 = false := by
        rw [← Bool.not_eq_true, hchanged]; omega
      rw [hc]
      simp only [hroll, h59, false_and, and_false, if_true, if_false] at vtick vsec vmin vhour
      exact .sec hroll (by omega) vtick vsec vmin vhour
  · have hc : (tickStage s).2 = false := by
      rw [← Bool.not_eq_true, hchanged]; exact fun h => hroll h.1
    rw [hc]
    simp only [hroll, false_and, if_false] at vtick vsec vmin vhour
    exact .tick (by omega) vtick vsec vmin vhour

/-! ## The cascade as a closed form (rule R112) -/

/-- How often TICK rolls over in `n` TICKs. -/
def State.tickCarry (s : State) (n : Nat) : Nat := (s.tick.toNat + n) / s.cfg.mainsHz

/-- How often SEC rolls over in `n` TICKs. -/
def State.secCarry (s : State) (n : Nat) : Nat := (s.sec.toNat + s.tickCarry n) / 60

/-- How often MIN rolls over in `n` TICKs. -/
def State.minCarry (s : State) (n : Nat) : Nat := (s.min.toNat + s.secCarry n) / 60

/-- The time registers of `t` are those of `s` after `n` TICKs, by division. -/
structure State.TimeAfter (s : State) (n : Nat) (t : State) : Prop where
  tick : t.tick.toNat = (s.tick.toNat + n) % s.cfg.mainsHz
  sec  : t.sec.toNat = (s.sec.toNat + s.tickCarry n) % 60
  min  : t.min.toNat = (s.min.toNat + s.secCarry n) % 60
  hour : t.hour.toNat = (s.hour.toNat - 1 + s.minCarry n) % 12 + 1

theorem State.secCarry_zero (h : s.timeOk) : s.secCarry 0 = 0 := by
  obtain ⟨htick, hsec, -⟩ := h
  have hnone : s.tickCarry 0 = 0 := Nat.div_eq_of_lt htick
  rw [State.secCarry, hnone]
  omega

theorem State.timeAfter_zero (h : s.timeOk) : s.TimeAfter 0 s := by
  have hmin := State.secCarry_zero h
  obtain ⟨ht, hs, hm, h1, hh⟩ := h
  have hsec : s.tickCarry 0 = 0 := Nat.div_eq_of_lt ht
  have hhour : s.minCarry 0 = 0 := by rw [State.minCarry, hmin]; omega
  exact ⟨(Nat.mod_eq_of_lt ht).symm, by omega, by omega, by omega⟩

/-- A TICK that does not roll over leaves the rollovers to the TICKs after it; one that does
is the first of them. -/
theorem tickCarry_succ {u : State} {c : Bool} (hu : Cascade s u c) (hcfg : u.cfg = s.cfg)
    (n : Nat) :
    (s.tick.toNat + (n + 1)) % s.cfg.mainsHz = (u.tick.toNat + n) % s.cfg.mainsHz ∧
      s.tickCarry (n + 1) =
        u.tickCarry n + (if s.tick.toNat + 1 = s.cfg.mainsHz then 1 else 0) := by
  simp only [State.tickCarry, hcfg]
  cases hu with
  | tick more tick sec min hour =>
    rw [tick, if_neg (by omega), Nat.add_right_comm, Nat.add_assoc]
    exact ⟨rfl, rfl⟩
  | sec rolled _ tick | min rolled _ _ tick | hour rolled _ _ tick =>
    have hsum : s.tick.toNat + (n + 1) = n + s.cfg.mainsHz := by omega
    rw [tick, if_pos rolled, hsum, Nat.zero_add, Nat.add_mod_right, Nat.add_div_right n (by omega)]
    exact ⟨rfl, rfl⟩

/-- The closed form of `n` TICKs after one TICK is that of `n + 1`, and the minute changes add
up. -/
theorem Cascade.timeAfter_succ {u : State} {c : Bool} {n : Nat} (hu : Cascade s u c)
    (hcfg : u.cfg = s.cfg) (hs : s.timeOk) (ht : u.TimeAfter n t) :
    s.TimeAfter (n + 1) t ∧ s.secCarry (n + 1) = (if c then 1 else 0) + u.secCarry n := by
  obtain ⟨hmod, hdiv⟩ := tickCarry_succ hu hcfg n
  obtain ⟨ttick, tsec, tmin, thour⟩ := ht
  obtain ⟨htick, hsec, hmin, h1, hhour⟩ := hs
  rw [hcfg, ← hmod] at ttick
  suffices h : t.sec.toNat = (s.sec.toNat + s.tickCarry (n + 1)) % 60 ∧
      t.min.toNat = (s.min.toNat + s.secCarry (n + 1)) % 60 ∧
      t.hour.toNat = (s.hour.toNat - 1 + s.minCarry (n + 1)) % 12 + 1 ∧
      s.secCarry (n + 1) = (if c then 1 else 0) + u.secCarry n from
    ⟨⟨ttick, h.1, h.2.1, h.2.2.1⟩, h.2.2.2⟩
  simp only [State.minCarry, State.secCarry, hdiv] at tmin thour ⊢
  cases hu with
  | tick more tick sec min hour =>
    simp only [if_neg more.ne, Bool.false_eq_true, if_false]
    omega
  | sec rolled more tick sec min hour =>
    simp only [if_pos rolled, Bool.false_eq_true, if_false]
    omega
  | min rolled rolledSec more tick sec min hour =>
    simp only [if_pos rolled, if_true]
    omega
  | hour rolled rolledSec rolledMin tick sec min hour =>
    simp only [if_pos rolled, if_true]
    omega
end

section
variable {s t : State}

/-- The closed form holds of the registers of `n` TICKs, and counts their minute changes. -/
theorem timeAfter_ticks (n : Nat) (hl : s.cfg.legal) (hs : s.timeOk) :
    s.TimeAfter n (ticks n s) ∧ minuteChanges n s = s.secCarry n := by
  induction n generalizing s with
  | zero => exact ⟨State.timeAfter_zero hs, (State.secCarry_zero hs).symm⟩
  | succ n ih =>
    have hcfg : (tickStage s).1.cfg = s.cfg := tickStage_cfg s
    obtain ⟨htime, hchanges⟩ := ih (s := (tickStage s).1) (hcfg ▸ hl)
      (tickStage_timeOk s hl.mainsHz_le hs)
    obtain ⟨hafter, hcount⟩ :=
      (cascade_tickStage hl.mainsHz_le hs).timeAfter_succ hcfg hs htime
    exact ⟨hafter, by rw [hcount, minuteChanges, hchanges]⟩

/-- The registers are back where they were exactly after a multiple of the whole period. -/
theorem State.TimeAfter.returns_iff {n : Nat} (h : s.TimeAfter n t) (hs : s.timeOk) :
    (t.tick = s.tick ∧ t.sec = s.sec ∧ t.min = s.min ∧ t.hour = s.hour) ↔
      43200 * s.cfg.mainsHz ∣ n := by
  obtain ⟨ttick, tsec, tmin, thour⟩ := h
  obtain ⟨htick, hsec, hmin, h1, hhour⟩ := hs
  simp only [State.minCarry, State.secCarry, State.tickCarry] at tsec tmin thour
  simp only [← BitVec.toNat_inj, ttick, tsec, tmin, thour]
  constructor
  · rintro ⟨etick, esec, emin, ehour⟩
    have hn := Nat.div_add_mod (s.tick.toNat + n) s.cfg.mainsHz
    rw [etick] at hn
    generalize (s.tick.toNat + n) / s.cfg.mainsHz = k at *
    have hperiod : 43200 ∣ k := by omega
    have hn' : n = k * s.cfg.mainsHz := by rw [Nat.mul_comm]; omega
    exact hn' ▸ Nat.mul_dvd_mul_right hperiod _
  · rintro ⟨k, rfl⟩
    have hsum : s.tick.toNat + 43200 * s.cfg.mainsHz * k =
        s.tick.toNat + s.cfg.mainsHz * (43200 * k) := by ring
    rw [hsum, Nat.add_mul_mod_self_left, Nat.add_mul_div_left _ _ (by omega),
      Nat.mod_eq_of_lt htick, Nat.div_eq_of_lt htick]
    omega

/-! ## The end of a TICK -/

/-- When a TICK starts a frame (rules R106 to R108). -/
theorem refreshCondition_tickStage :
    refreshCondition s.cfg.refreshPolicy (tickStage s).2 = true ↔
      s.cfg.refreshPolicy = .everyTick ∨
        (s.tick.toNat + 1 = s.cfg.mainsHz ∧ s.sec.toNat + 1 = 60) := by
  cases hp : s.cfg.refreshPolicy <;> simp [refreshCondition, tickStage_changed]

theorem encodeDomain_of_timeOk (h : s.timeOk) : encodeDomain s.hour.toNat s.min.toNat = true := by
  obtain ⟨-, -, hmin, h1, hhour⟩ := h
  exact (encodeDomain_iff _ _).mpr ⟨⟨h1, hhour⟩, hmin⟩

/-- From a time in range the end of a TICK completes (rules R107, R171). -/
theorem finishTick_of_timeOk (c : Bool) (h : s.timeOk) :
    finishTick s c = .next (if refreshCondition s.cfg.refreshPolicy c then
      s.startFrame (encodeByte s.hour.toNat s.min.toNat) else s) := by
  rw [finishTick, startRefresh, if_pos (encodeDomain_of_timeOk h)]
  split <;> rfl

/-- In range the cascade uses no free value: it writes the time registers only. -/
theorem tickStage_frame_of_timeOk (hF : s.cfg.mainsHz ≤ 63) (h : s.timeOk) :
    (tickStage s).1 = { s with
      tick := (tickStage s).1.tick, sec := (tickStage s).1.sec, min := (tickStage s).1.min,
      hour := (tickStage s).1.hour } := by
  obtain ⟨-, -, -, -, hfree⟩ := tickStage_values s hF h
  refine tickStage_frame.trans ?_
  rw [hfree]

/-- The TICK step in range, where it is selected (rules R101, R107, R171). -/
theorem execTick_of_timeOk (hF : s.cfg.mainsHz ≤ 63) (h : s.timeOk) (hq : s.seq = .wait)
    (hp : s.pend = true) :
    execTick s = .next (if s.cfg.refreshPolicy = .everyTick ∨
        (s.tick.toNat + 1 = s.cfg.mainsHz ∧ s.sec.toNat + 1 = 60)
      then (tickStage s.takeInterrupt).1.startFrame (encodeByte
        (tickStage s.takeInterrupt).1.hour.toNat (tickStage s.takeInterrupt).1.min.toNat)
      else (tickStage s.takeInterrupt).1) := by
  have hu : (tickStage s.takeInterrupt).1.timeOk := tickStage_timeOk s.takeInterrupt hF h
  rw [execTick_selected hq hp, finishTick_of_timeOk _ hu, tickStage_cfg]
  simp only [refreshCondition_tickStage]
  rfl

/-- WAIT where it is selected changes nothing (rule R109). -/
theorem execWait_selected (hq : s.seq = .wait) (hp : s.pend = false) : execWait s = .next s :=
  if_pos ⟨hq, hp⟩

end

/-- Settles O7: the pending latch decides. -/
theorem pulseIsLatchedOrRefused : Obligations.PulseIsLatchedOrRefused := by
  unfold Obligations.PulseIsLatchedOrRefused
  refine fun s => ⟨fun h => ?latched, fun h => ?overrun⟩
  case latched => exact execPulse_eq_next.mpr ⟨h, rfl⟩
  case overrun => exact execPulse_overrun h

/-- Settles O8: a legal build is initialised, with a free value in TXB; any other is refused. -/
theorem resetInitialisesTheBlock : Obligations.ResetInitialisesTheBlock := by
  unfold Obligations.ResetInitialisesTheBlock
  refine fun s => ⟨fun h => ⟨Config.freeValue 8 s.free, ?legal⟩, fun h => ?illegal⟩
  case legal => exact execReset_eq_next.mpr ⟨h, rfl⟩
  case illegal => exact execReset_illegal h

/-- Settles O9: the initial time of a legal build fits its registers. -/
theorem resetStateHoldsTheInitialTime : Obligations.ResetStateHoldsTheInitialTime := by
  unfold Obligations.ResetStateHoldsTheInitialTime
  intro p h s
  obtain ⟨-, ⟨-, hhour⟩, hmin, hsec⟩ := h
  exact ⟨Nat.mod_eq_of_lt (by omega), Nat.mod_eq_of_lt (by omega), Nat.mod_eq_of_lt (by omega),
    rfl, rfl, rfl, rfl, rfl, rfl, rfl⟩

/-- Settles O14: the register takes the next free value and only the count of free values moves. -/
theorem incrementThatDoesNotFitCompletes : Obligations.IncrementThatDoesNotFitCompletes := by
  unfold Obligations.IncrementThatDoesNotFitCompletes
  refine fun s => ⟨fun h hF => ⟨Config.freeValue 6 s.free, ?tick⟩,
    fun h => ⟨Config.freeValue 6 s.free, ?sec⟩, fun h => ⟨Config.freeValue 6 s.free, ?min⟩,
    fun h => ⟨Config.freeValue 4 s.free, ?hour⟩⟩
  case tick => rw [exec_tickInc, tickStage_of_overflow h hF]
  case sec => rw [exec_secInc, secStage_of_overflow h]
  case min => rw [exec_minInc, minStage_of_overflow h]
  case hour => rw [exec_hourInc, hourStage_of_overflow h]

/-- Settles O15: the cascade runs in the state with PEND cleared and stays in the domain of
ENCODE. -/
theorem tickStepRunsTheCascadeAndStartsTheRefresh :
    Obligations.TickStepRunsTheCascadeAndStartsTheRefresh := by
  unfold Obligations.TickStepRunsTheCascadeAndStartsTheRefresh
  exact fun s hs hF hq hp => ⟨(tickStage s.takeInterrupt).1, exec_tickInc s.takeInterrupt,
    tickStage_frame_of_timeOk (s := s.takeInterrupt) hF hs, execTick_of_timeOk hF hs hq hp⟩

/-- Settles O17, by induction on the number of TICKs. -/
theorem cascadeHasTheClosedForm : Obligations.CascadeHasTheClosedForm := by
  unfold Obligations.CascadeHasTheClosedForm
  intro n s hl hs
  obtain ⟨⟨htick, hsec, hmin, hhour⟩, hchanges⟩ := timeAfter_ticks n hl hs
  exact ⟨htick, hsec, hmin, hhour, hchanges⟩

/-- Settles O18: the registers are back after the multiples of the period, of which one only is in
the range of `n`. -/
theorem timeRegistersReturnAfterOnePeriodOnly :
    Obligations.TimeRegistersReturnAfterOnePeriodOnly := by
  unfold Obligations.TimeRegistersReturnAfterOnePeriodOnly
  intro n s hl hs hpos hle
  rw [(timeAfter_ticks n hl hs).1.returns_iff hs]
  exact ⟨fun h => Nat.le_antisymm hle (Nat.le_of_dvd hpos h), fun h => h ▸ Nat.dvd_refl _⟩

/-- Settles O19: the four tests of the flat reading find what the nested stages find, wherever the
cascade ends. -/
theorem nestedAndFlatReadingsAgree : Obligations.NestedAndFlatReadingsAgree := by
  unfold Obligations.NestedAndFlatReadingsAgree
  intro s hl hs
  have hc := cascade_tickStage hl.mainsHz_le hs
  generalize (tickStage s).1 = t at *
  generalize (tickStage s).2 = c at *
  obtain ⟨htick, hsec, hmin, h1, hhour⟩ := hs
  have hsec60 : s.sec.toNat ≠ 60 := by omega
  have hmin60 : s.min.toNat ≠ 60 := by omega
  have hhour13 : s.hour.toNat ≠ 13 := by omega
  cases hc with
  | tick more tick sec min hour =>
    simp [flatTick, tick, sec, min, hour, more.ne, hsec60, hmin60, hhour13]
  | sec rolled more tick sec min hour =>
    simp [flatTick, tick, sec, min, hour, rolled, more.ne, hmin60, hhour13]
  | min rolled rolledSec more tick sec min hour =>
    simp [flatTick, tick, sec, min, hour, rolled, rolledSec, more.ne, hhour13]
  | hour rolled rolledSec rolledMin tick sec min hour =>
    simp [flatTick, tick, sec, min, hour, rolled, rolledSec, rolledMin]
    split <;> omega

/-- Settles O20: WAIT keeps the state, and is what a block with nothing scheduled performs. -/
theorem waitChangesNothing : Obligations.WaitChangesNothing := by
  unfold Obligations.WaitChangesNothing
  refine fun s hq hp => ⟨execWait_selected hq hp, fun he hv => ?stays⟩
  case stays =>
    rw [step_of_no_event he hv, hq, hp]
    exact execWait_selected hq hp

end Sys2Proof.Machine

/-! The display encoder (41_display_encoder.md): the display byte as a number, its fields, and what
ENCODE, TENS and FIVE answer in their domain and outside it. -/

namespace Sys2Proof.Machine

section
variable {h m h' m' : Nat} {s : State}

/-! ## The display byte -/

/-- The five-flag as a byte. -/
theorem setWidth_fiveFlag :
    (BitVec.ofBool (fiveFlag m)).setWidth 8 = if 5 ≤ m % 10 then 1 else 0 := by
  by_cases hf : 5 ≤ m % 10 <;> simp [fiveFlag, hf]

/-- The three parts of the display byte do not overlap, so they add up (rules R72, R133). -/
theorem toNat_encodeByte (hh : h ≤ 12) (hm : m ≤ 59) : (encodeByte h m).toNat = 16 * h + m / 5 := by
  have hhours : (BitVec.ofNat 8 h <<< 4).toNat = h <<< 4 := by
    simp [Nat.shiftLeft_eq]; omega
  have htens : (BitVec.ofNat 8 (tensDigit m) <<< 1).toNat = (m / 10) <<< 1 := by
    simp [tensDigit, Nat.shiftLeft_eq]; omega
  have hfive : ((BitVec.ofBool (fiveFlag m)).setWidth 8).toNat = m / 5 % 2 := by
    rw [setWidth_fiveFlag]; split <;> simp <;> omega
  rw [encodeByte, BitVec.toNat_or, BitVec.toNat_or, hhours, htens, hfive, Nat.or_assoc,
    ← Nat.shiftLeft_add_eq_or_of_lt (i := 1) (by omega),
    ← Nat.shiftLeft_add_eq_or_of_lt (i := 4) (by omega)]
  omega

theorem hoursField_encodeByte (hh : h ≤ 12) (hm : m ≤ 59) :
    (hoursField (encodeByte h m)).toNat = h := by
  rw [hoursField, BitVec.extractLsb'_toNat, toNat_encodeByte hh hm, Nat.shiftRight_eq_div_pow]
  omega

theorem tensField_encodeByte (hh : h ≤ 12) (hm : m ≤ 59) :
    (tensField (encodeByte h m)).toNat = m / 10 := by
  rw [tensField, BitVec.extractLsb'_toNat, toNat_encodeByte hh hm, Nat.shiftRight_eq_div_pow]
  omega

theorem fiveField_encodeByte (hh : h ≤ 12) (hm : m ≤ 59) :
    fiveField (encodeByte h m) = decide (5 ≤ m % 10) := by
  rw [fiveField, BitVec.getLsbD, toNat_encodeByte hh hm, Nat.testBit_zero]
  congr 1
  rw [eq_iff_iff]
  omega

/-- Two times share a byte exactly when they share the hour and the five-minute slot (rule R136). -/
theorem encodeByte_eq_iff (hh : h ≤ 12) (hm : m ≤ 59) (hh' : h' ≤ 12) (hm' : m' ≤ 59) :
    encodeByte h m = encodeByte h' m' ↔ h = h' ∧ m / 5 = m' / 5 := by
  rw [← BitVec.toNat_inj, toNat_encodeByte hh hm, toNat_encodeByte hh' hm']
  omega

/-! ## The display functions in their domain and outside it -/

theorem minutesInDomain_iff : minutesInDomain m = true ↔ m ≤ 59 := by simp [minutesInDomain]

theorem execEncode_of_domain (hd : encodeDomain h m = true) :
    execEncode h m s = .next (s.returnValue (encodeByte h m)) := if_pos hd

theorem execEncode_of_not_domain (hd : ¬ encodeDomain h m = true) :
    execEncode h m s = .refused .encodeDomain := if_neg hd

theorem execRefresh_of_domain (hd : encodeDomain h m = true) :
    execRefresh h m s = execShiftOut (encodeByte h m) s := if_pos hd

theorem execRefresh_of_not_domain (hd : ¬ encodeDomain h m = true) :
    execRefresh h m s = .refused .encodeDomain := if_neg hd

theorem execTens_of_domain (hm : m ≤ 59) :
    execTens m s = .next (s.returnValue (BitVec.ofNat 8 (tensDigit m))) := by
  rw [execTens, if_pos (minutesInDomain_iff.mpr hm)]

theorem execTens_of_not_domain (hm : 59 < m) : execTens m s = .next (s.returnFree 3) := by
  rw [execTens, if_neg (by rw [minutesInDomain_iff]; omega)]

theorem execFive_of_domain (hm : m ≤ 59) :
    execFive m s = .next (s.returnValue ((BitVec.ofBool (fiveFlag m)).setWidth 8)) := by
  rw [execFive, if_pos (minutesInDomain_iff.mpr hm)]

theorem execFive_of_not_domain (hm : 59 < m) : execFive m s = .next (s.returnFree 1) := by
  rw [execFive, if_neg (by rw [minutesInDomain_iff]; omega)]

/-! ## The LEDs -/

theorem led_hours (k : Fin 4) : s.led ⟨4 + k.val, by omega⟩ = (hoursField s.q).getLsbD k.val := by
  simp [State.led, hoursField]

theorem led_tens (k : Fin 3) : s.led ⟨1 + k.val, by omega⟩ = (tensField s.q).getLsbD k.val := by
  simp [State.led, tensField]

theorem led_five : s.led 0 = fiveField s.q := rfl

end

/-- Settles O21: in the domain the value TENS returns is the quotient. -/
theorem tensIsTheTensDigit : Obligations.TensIsTheTensDigit := by
  unfold Obligations.TensIsTheTensDigit
  exact fun m s hm => ⟨by omega, execTens_of_domain hm⟩

/-- Settles O22: the flag, widened to a byte, is 1 or 0. -/
theorem fiveFlagIsTheUpperHalfOfTheDecade : Obligations.FiveFlagIsTheUpperHalfOfTheDecade := by
  unfold Obligations.FiveFlagIsTheUpperHalfOfTheDecade
  intro m s hm
  rw [exec, execFive_of_domain hm, State.returnValue, setWidth_fiveFlag]

/-- Settles O23: the bound is that of the byte as a number. -/
theorem encodePacksHoursTensAndFive : Obligations.EncodePacksHoursTensAndFive := by
  unfold Obligations.EncodePacksHoursTensAndFive
  refine fun h m s h1 hh hm => ⟨encodeByte h m, ?packed, ?bound, ?answer⟩
  case packed => rw [encodeByte, setWidth_fiveFlag, tensDigit]
  case bound =>
    rw [BitVec.le_def, toNat_encodeByte hh hm]
    show 16 * h + m / 5 ≤ 203
    omega
  case answer => exact execEncode_of_domain ((encodeDomain_iff h m).mpr ⟨⟨h1, hh⟩, hm⟩)

/-- Settles O24: each field is a quotient or a remainder of the byte as a number. -/
theorem displayByteFieldsReadBack : Obligations.DisplayByteFieldsReadBack := by
  unfold Obligations.DisplayByteFieldsReadBack
  exact fun h m _ hh hm =>
    ⟨hoursField_encodeByte hh hm, tensField_encodeByte hh hm, fiveField_encodeByte hh hm⟩

/-- Settles O25: the three parts add up, and the sum determines the hour and the slot. -/
theorem displayByteIsHoursAndFifthOfMinutes : Obligations.DisplayByteIsHoursAndFifthOfMinutes := by
  unfold Obligations.DisplayByteIsHoursAndFifthOfMinutes
  exact fun h m h' m' _ hh hm _ hh' hm' =>
    ⟨toNat_encodeByte hh hm, encodeByte_eq_iff hh hm hh' hm'⟩

/-- Settles O26: outside the domain ENCODE and REFRESH refuse, and TENS and FIVE take the next free
value. -/
theorem displayFunctionsOutsideTheirDomain : Obligations.DisplayFunctionsOutsideTheirDomain := by
  unfold Obligations.DisplayFunctionsOutsideTheirDomain
  refine fun h m s => ⟨fun hout => ?refused, fun hm => ?free⟩
  case refused =>
    have hd : ¬ encodeDomain h m = true := by rw [encodeDomain_iff]; omega
    exact ⟨execEncode_of_not_domain hd, execRefresh_of_not_domain hd⟩
  case free =>
    exact ⟨Config.freeValue 3 s.free, Config.freeValue 1 s.free, execTens_of_not_domain hm,
      execFive_of_not_domain hm⟩

/-- Settles O43: the LEDs are the bits of the fields of the byte. -/
theorem ledsShowHoursTensAndFive : Obligations.LedsShowHoursTensAndFive := by
  unfold Obligations.LedsShowHoursTensAndFive
  refine fun s h m _ hh hm hq => ⟨fun k => ?hours, fun k => ?tens, ?five⟩
  case hours => rw [led_hours, hq, BitVec.getLsbD, hoursField_encodeByte hh hm]
  case tens => rw [led_tens, hq, BitVec.getLsbD, tensField_encodeByte hh hm]
  case five => rw [led_five, hq, fiveField_encodeByte hh hm]

end Sys2Proof.Machine

/-! The line-drive steps and the sequences (42_shift_out.md): what a list of writes does to the
lines and to the traces, what the shift register takes in, and the state a whole frame leaves. -/

namespace Sys2Proof.Machine

/-! ## Writes, levels and transitions (rule R17) -/

section
variable {l : Levels} {e : WireEvent} {es fs : List WireEvent}

/-- A write of the level a line has leaves all levels as they are. -/
theorem Levels.after_of_get (h : l.get e.line = e.level) : l.after e = l := by
  obtain ⟨line, level⟩ := e
  cases line <;> cases h <;> rfl

theorem levelsAfter_append : levelsAfter l (es ++ fs) = levelsAfter (levelsAfter l es) fs :=
  List.foldl_append

theorem transitions_append :
    transitions l (es ++ fs) = transitions l es ++ transitions (levelsAfter l es) fs := by
  induction es generalizing l with
  | nil => rfl
  | cons e es ih =>
    rw [List.cons_append, transitions, transitions, levelsAfter, List.foldl_cons, ← levelsAfter]
    by_cases h : l.get e.line = e.level
    · rw [if_pos h, if_pos h, ih, Levels.after_of_get h]
    · rw [if_neg h, if_neg h, ih, List.cons_append]

end

section
variable {s t u : State} {i : BitIndex} {b : Byte} {es fs : List WireEvent}

theorem State.get_levels (L : Line) : s.levels.get L = s.level L := by cases L <;> rfl

/-- From `s` to `t` the block made the writes `es`: each is recorded, the transitions among them
too, and the lines are at the levels they left (rules R17, R56). -/
structure State.Wrote (s : State) (es : List WireEvent) (t : State) : Prop where
  wt : t.wt = s.wt ++ es
  tt : t.tt = s.tt ++ transitions s.levels es
  levels : t.levels = levelsAfter s.levels es

theorem State.Wrote.trans (h : s.Wrote es t) (h' : t.Wrote fs u) : s.Wrote (es ++ fs) u where
  wt := by rw [h'.wt, h.wt, List.append_assoc]
  tt := by rw [h'.tt, h.tt, h.levels, transitions_append, List.append_assoc]
  levels := by rw [h'.levels, h.levels, levelsAfter_append]

/-- A drive is its one write, wherever the sequencer goes. -/
theorem State.wrote_drive_goTo (L : Line) (v : Bool) (q : Seq) :
    s.Wrote [⟨L, v⟩] ((s.drive L v).goTo q) where
  wt := State.drive_wt s L v
  tt := by
    show (s.drive L v).tt = _
    rw [State.drive_tt, transitions, State.get_levels]
    split <;> simp [transitions]
  levels := by
    show (s.drive L v).levels = s.levels.after ⟨L, v⟩
    cases L <;> cases v <;>
      simp [State.levels, Levels.after, State.drive_clock_low, State.drive_clock_high,
        State.drive_data, State.drive_latch_high, State.drive_latch_low]

theorem State.wrote_afterSlot : s.Wrote (slotEvents s.txb i) (s.afterSlot i) := by
  have hlow := State.wrote_drive_goTo (s := s) .clock false (.sh i .b)
  have hset := State.wrote_drive_goTo (s := (s.drive .clock false).goTo (.sh i .b)) .data
    (bitOf s.txb i) (.sh i .c)
  have hbit : ((s.drive .clock false).goTo (.sh i .b)).txb = s.txb := State.drive_txb s _ _
  rw [State.afterSlot, hbit]
  exact (hlow.trans hset).trans (State.wrote_drive_goTo .clock true _)

theorem State.wrote_afterSlots (is : List BitIndex) :
    s.Wrote (is.flatMap (slotEvents s.txb)) (s.afterSlots is) := by
  induction is generalizing s with
  | nil => exact ⟨(List.append_nil _).symm, (List.append_nil _).symm, rfl⟩
  | cons i is ih =>
    have hrest := ih (s := s.afterSlot i)
    rw [State.afterSlot_txb] at hrest
    exact State.wrote_afterSlot.trans hrest

theorem State.wrote_afterLatchPulse :
    s.Wrote [⟨.latch, true⟩, ⟨.latch, false⟩] s.afterLatchPulse :=
  (State.wrote_drive_goTo .latch true (.lt .lo)).trans (State.wrote_drive_goTo .latch false .wait)

/-- A whole frame is its 26 writes (rule R160). -/
theorem State.wrote_frame :
    s.Wrote (frameEvents b) ((s.startFrame b).afterSlots allBits).afterLatchPulse := by
  obtain ⟨hwt, htt, hlevels⟩ := (State.wrote_afterSlots (s := s.startFrame b) allBits).trans
    State.wrote_afterLatchPulse
  exact ⟨hwt, htt, hlevels⟩

/-- The levels after a frame, whatever they were before (rule R159). -/
theorem levelsAfter_frameEvents (l : Levels) :
    levelsAfter l (frameEvents b) = ⟨b.getLsbD 7, true, false⟩ := rfl

/-! ## What the shift register takes in (rules R211, R212, R214) -/

/-- The first `n` bits of the transmit byte are in the shift stages, in order below position 8. -/
def State.holdsBits (s : State) (n : Nat) : Prop :=
  ∀ k, k < n → s.sr.getLsbD (8 - n + k) = s.txb.getLsbD k

theorem State.holdsBits_zero : s.holdsBits 0 := fun _ hk => nomatch hk

/-- Once all eight bits are in, the shift stages hold the byte. -/
theorem State.holdsBits_eight : s.holdsBits 8 ↔ s.sr = s.txb := by
  refine ⟨fun h => BitVec.eq_of_getLsbD_eq fun k hk => ?_, fun h k _ => ?_⟩
  · simpa using h k hk
  · simp [h]

/-- A rising clock edge with bit `n` on DATA takes that bit in. -/
theorem State.holdsBits_shiftIn {n : Nat} (hn : n < 8) (h : s.holdsBits n)
    (hdata : s.data = s.txb.getLsbD n) : s.shiftIn.holdsBits (n + 1) := by
  intro k hk
  rw [State.shiftIn_bit, State.shiftIn_txb]
  obtain hlt | rfl : k < n ∨ k = n := by omega
  · have hpos : 8 - (n + 1) + k + 1 = 8 - n + k := by omega
    rw [if_pos (by omega), hpos, h k hlt]
  · have hpos : 8 - (k + 1) + k = 7 := by omega
    rw [hpos]
    simp [hdata]

/-- What a bit slot leaves of the state. -/
theorem State.afterSlot_eq :
    s.afterSlot i = { s with
      seq := afterClkHigh i, data := s.txb.getLsbD i.val, clock := true,
      sr := ({ s with data := s.txb.getLsbD i.val } : State).shiftIn.sr,
      wt := (s.afterSlot i).wt, tt := (s.afterSlot i).tt } := by
  simp only [State.afterSlot, State.goTo, State.drive_clock_low, State.drive_data,
    State.drive_clock_high, bitOf]
  rfl

theorem State.holdsBits_afterSlot (h : s.holdsBits i.val) :
    (s.afterSlot i).holdsBits (i.val + 1) := by
  rw [State.afterSlot_eq]
  exact State.holdsBits_shiftIn (s := { s with data := s.txb.getLsbD i.val }) i.isLt h rfl

/-- Eight slots take the whole byte in (rule R214). -/
theorem State.afterSlots_allBits_sr : (s.afterSlots allBits).sr = s.txb := by
  have h1 := State.holdsBits_afterSlot (i := 0) s.holdsBits_zero
  have h4 := State.holdsBits_afterSlot (i := 3) (State.holdsBits_afterSlot (i := 2)
    (State.holdsBits_afterSlot (i := 1) h1))
  have h8 := State.holdsBits_afterSlot (i := 7) (State.holdsBits_afterSlot (i := 6)
    (State.holdsBits_afterSlot (i := 5) (State.holdsBits_afterSlot (i := 4) h4)))
  simpa [allBits, State.afterSlots] using State.holdsBits_eight.mp h8

/-- Bit slots touch the clock and data lines, the shift stages, the traces and the sequencer. -/
theorem State.afterSlots_frame (is : List BitIndex) :
    s.afterSlots is = { s with
      seq := (s.afterSlots is).seq, data := (s.afterSlots is).data,
      clock := (s.afterSlots is).clock, sr := (s.afterSlots is).sr, wt := (s.afterSlots is).wt,
      tt := (s.afterSlots is).tt } := by
  induction is generalizing s with
  | nil => rfl
  | cons i is ih =>
    rw [State.afterSlots, ih, State.afterSlot_eq]

/-- What the latch pulse leaves of the state. -/
theorem State.afterLatchPulse_eq :
    s.afterLatchPulse = { s with
      seq := .wait, latch := false, q := if s.latch then s.q else s.sr,
      wt := s.afterLatchPulse.wt, tt := s.afterLatchPulse.tt } := by
  simp only [State.afterLatchPulse, State.goTo, State.returnFromInterrupt, State.drive_latch_high,
    State.drive_latch_low]

end

section
variable {s t u : State} {i : BitIndex} {b : Byte}

/-! ## A whole frame -/

/-- The state a whole frame for byte `b` leaves (rules R151, R159, R214). -/
def State.afterFrame (b : Byte) (s : State) : State :=
  { s with
    txb := b, seq := .wait, data := b.getLsbD 7, clock := true, latch := false,
    wt := s.wt ++ frameEvents b, tt := s.tt ++ transitions s.levels (frameEvents b),
    sr := b, q := if s.latch then s.q else b }

theorem State.afterFrame_eq :
    ((s.startFrame b).afterSlots allBits).afterLatchPulse = s.afterFrame b := by
  obtain ⟨hwt, htt, hlevels⟩ := State.wrote_frame (s := s) (b := b)
  rw [levelsAfter_frameEvents] at hlevels
  have hsr : ((s.startFrame b).afterSlots allBits).sr = b := State.afterSlots_allBits_sr
  have hframe := State.afterSlots_frame (s := s.startFrame b) allBits
  generalize (s.startFrame b).afterSlots allBits = v at *
  rw [State.afterLatchPulse_eq] at hlevels ⊢
  simp only [State.levels, Levels.mk.injEq] at hlevels
  simp only [hwt, htt, hlevels, hsr]
  rw [hframe]
  rfl

theorem frameMayStart_iff :
    s.frameMayStart b = true ↔ s.seq = .wait ∨ (s.seq = .sh 0 .a ∧ s.txb = b) := by
  simp [State.frameMayStart]

theorem execShiftOut_eq (h : s.seq = .wait ∨ (s.seq = .sh 0 .a ∧ s.txb = b)) :
    execShiftOut b s = .next (s.afterFrame b) := by
  rw [execShiftOut_of_mayStart (frameMayStart_iff.mpr h), State.afterFrame_eq]

/-! ## The transitions a frame shows (rule R161) -/

theorem transitions_slotEvents (d c : Bool) :
    transitions ⟨d, c, false⟩ (slotEvents b i) =
      (if c then [⟨.clock, false⟩] else []) ++
        (if d = b.getLsbD i.val then [] else [⟨.data, b.getLsbD i.val⟩]) ++ [⟨.clock, true⟩] := by
  rw [slotEvents]
  generalize b.getLsbD i.val = v
  cases c <;> cases d <;> cases v <;> rfl

/-- Of the bit slots `is`, each shows one rising clock edge, at most one change of DATA and a
falling clock edge, the first one only when the clock was high. -/
theorem slots_transitions (is : List BitIndex) (d c : Bool) :
    let tt := transitions ⟨d, c, false⟩ (is.flatMap (slotEvents b))
    tt.count ⟨.clock, true⟩ = is.length ∧
      tt.count ⟨.clock, false⟩ = is.length - (if c then 0 else 1) ∧
      tt.count ⟨.latch, true⟩ = 0 ∧ tt.count ⟨.latch, false⟩ = 0 ∧
      tt.count ⟨.data, true⟩ + tt.count ⟨.data, false⟩ ≤ is.length := by
  induction is generalizing d c with
  | nil => simp [transitions]
  | cons i is ih =>
    have hlevels :
        levelsAfter ⟨d, c, false⟩ (slotEvents b i) = ⟨b.getLsbD i.val, true, false⟩ := rfl
    obtain ⟨hrise, hfall, hhi, hlo, hdata⟩ := ih (b.getLsbD i.val) true
    simp only [List.flatMap_cons, transitions_append, hlevels, transitions_slotEvents,
      List.count_append, List.length_cons, hrise, hfall, hhi, hlo]
    generalize b.getLsbD i.val = v at *
    cases c <;> cases d <;> cases v <;> simp <;> omega

/-! ## One step of a frame -/

/-- What the block step of a frame makes of a state (the table of rule R172). -/
def State.frameStep (s : State) : State :=
  match s.seq with
  | .wait => s
  | .sh i .a => (s.drive .clock false).goTo (.sh i .b)
  | .sh i .b => (s.drive .data (bitOf s.txb i)).goTo (.sh i .c)
  | .sh i .c => (s.drive .clock true).goTo (afterClkHigh i)
  | .lt .hi => (s.drive .latch true).goTo (.lt .lo)
  | .lt .lo => (s.drive .latch false).returnFromInterrupt

theorem State.frameStep_clkLow (h : s.seq = .sh i .a) :
    s.frameStep = (s.drive .clock false).goTo (.sh i .b) := by rw [State.frameStep, h]

theorem State.frameStep_dataSet (h : s.seq = .sh i .b) :
    s.frameStep = (s.drive .data (bitOf s.txb i)).goTo (.sh i .c) := by rw [State.frameStep, h]

theorem State.frameStep_clkHigh (h : s.seq = .sh i .c) :
    s.frameStep = (s.drive .clock true).goTo (afterClkHigh i) := by rw [State.frameStep, h]

theorem State.frameStep_latchHigh (h : s.seq = .lt .hi) :
    s.frameStep = (s.drive .latch true).goTo (.lt .lo) := by rw [State.frameStep, h]

theorem State.frameStep_latchLow (h : s.seq = .lt .lo) :
    s.frameStep = (s.drive .latch false).returnFromInterrupt := by rw [State.frameStep, h]

/-- In the middle of a frame a step is one drive, and the sequencer goes on: which, the sequencer
state and the transmit byte say. -/
theorem State.frameStep_drives (h : s.seq ≠ .wait) : ∃ L v q, ∀ u : State,
    u.seq = s.seq → u.txb = s.txb → u.frameStep = (u.drive L v).goTo q := by
  cases hq : s.seq with
  | wait => exact absurd hq h
  | sh i x =>
    cases x with
    | a => exact ⟨_, _, _, fun u hu _ => State.frameStep_clkLow hu⟩
    | b => exact ⟨_, _, _, fun u hu hb => hb ▸ State.frameStep_dataSet hu⟩
    | c => exact ⟨_, _, _, fun u hu _ => State.frameStep_clkHigh hu⟩
  | lt x =>
    cases x with
    | hi => exact ⟨_, _, _, fun u hu _ => State.frameStep_latchHigh hu⟩
    | lo => exact ⟨_, _, .wait, fun u hu _ => State.frameStep_latchLow hu⟩

theorem State.frameStep_eq_drive (h : s.seq ≠ .wait) :
    ∃ L v q, s.frameStep = (s.drive L v).goTo q := by
  obtain ⟨L, v, q, hdrive⟩ := State.frameStep_drives h
  exact ⟨L, v, q, hdrive s rfl rfl⟩

theorem State.frameStep_txb (h : s.seq ≠ .wait) : s.frameStep.txb = s.txb := by
  obtain ⟨L, v, q, hdrive⟩ := State.frameStep_eq_drive h
  simp [hdrive]

theorem State.frameStep_edge (h : s.seq ≠ .wait) : s.frameStep.edge = s.edge := by
  obtain ⟨L, v, q, hdrive⟩ := State.frameStep_eq_drive h
  simp [hdrive]

theorem State.frameStep_pend (h : s.seq ≠ .wait) : s.frameStep.pend = s.pend := by
  obtain ⟨L, v, q, hdrive⟩ := State.frameStep_eq_drive h
  simp [hdrive]

theorem State.frameStep_events (h : s.seq ≠ .wait) : s.frameStep.events = s.events := by
  obtain ⟨L, v, q, hdrive⟩ := State.frameStep_eq_drive h
  simp [hdrive]

/-- In the middle of a frame the sequencer's operation completes, whether or not a pulse waits. -/
theorem exec_seqInstr (h : s.seq ≠ .wait) (p : Bool) :
    exec (s.seq.instr p) s = .next s.frameStep := by
  cases hq : s.seq with
  | wait => exact absurd hq h
  | sh i x =>
    cases x with
    | a => rw [State.frameStep_clkLow hq]; exact execClkLow_selected hq
    | b => rw [State.frameStep_dataSet hq]; exact execDataSet_selected hq
    | c => rw [State.frameStep_clkHigh hq]; exact execClkHigh_selected hq
  | lt x =>
    cases x with
    | hi => rw [State.frameStep_latchHigh hq]; exact execLatchHigh_selected hq
    | lo => rw [State.frameStep_latchLow hq]; exact execLatchLow_selected hq

theorem step_of_frame (he : s.edge = none) (hv : s.envPoint = .quiet) (h : s.seq ≠ .wait) :
    step s = .next s.popEvent.frameStep := by
  rw [step_of_no_edge s he, hv]
  exact exec_seqInstr (s := s.popEvent) h s.pend

theorem step_of_pulse (he : s.edge = none) (hv : s.envPoint = .pulse) (hp : s.pend = false) :
    step s = .next { s.popEvent with pend := true } := by
  rw [step_of_no_edge s he, hv]
  exact execPulse_eq_next.mpr ⟨hp, rfl⟩

theorem stepsLeft_afterClkHigh : stepsLeft (afterClkHigh i) + 1 = stepsLeft (.sh i .c) := by
  revert i; decide

/-- Every block step of a frame takes it one step on (rules R173, R176). -/
theorem State.stepsLeft_frameStep (h : s.seq ≠ .wait) :
    stepsLeft s.frameStep.seq + 1 = stepsLeft s.seq := by
  cases hq : s.seq with
  | wait => exact absurd hq h
  | sh i x =>
    cases x with
    | a => rw [State.frameStep_clkLow hq, State.goTo_seq, stepsLeft, stepsLeft]; omega
    | b => rw [State.frameStep_dataSet hq, State.goTo_seq, stepsLeft, stepsLeft]; omega
    | c => rw [State.frameStep_clkHigh hq, State.goTo_seq, stepsLeft_afterClkHigh]
  | lt x =>
    cases x with
    | hi => rw [State.frameStep_latchHigh hq]; rfl
    | lo => rw [State.frameStep_latchLow hq]; rfl

/-- A drive neither reads nor writes the pending latch or the schedule. -/
theorem State.drive_with (L : Line) (v p : Bool) (es : List EnvPoint) :
    ({ s with pend := p, events := es } : State).drive L v =
      { s.drive L v with pend := p, events := es } := by
  cases L <;> cases v <;>
    simp only [State.drive_clock_low, State.drive_clock_high, State.drive_data,
      State.drive_latch_high, State.drive_latch_low, State.shiftIn_sr]

/-- Nor does a step of a frame. -/
theorem State.frameStep_with (h : s.seq ≠ .wait) (p : Bool) (es : List EnvPoint) :
    ({ s with pend := p, events := es } : State).frameStep =
      { s.frameStep with pend := p, events := es } := by
  obtain ⟨L, v, q, hdrive⟩ := State.frameStep_drives h
  rw [hdrive s rfl rfl, hdrive { s with pend := p, events := es } rfl rfl]
  exact congrArg (State.goTo q) (State.drive_with L v p es)

/-- A scheduled pulse is latched, whatever the sequencer does. -/
theorem step_scheduled_pulse (es : List EnvPoint) (he : s.edge = none) (hp : s.pend = false) :
    step { s with events := .pulse :: es } = .next { s with pend := true, events := es } :=
  step_of_pulse (s := { s with events := .pulse :: es }) he rfl hp

/-- A scheduled quiet point of a frame is its next step. -/
theorem step_scheduled_frame (es : List EnvPoint) (he : s.edge = none) (hq : s.seq ≠ .wait) :
    step { s with events := .quiet :: es } = .next { s.frameStep with events := es } := by
  have hsame : ({ s with events := es } : State).frameStep = { s.frameStep with events := es } :=
    (State.frameStep_with hq s.pend es).trans (by rw [← State.frameStep_pend hq])
  exact (step_of_frame (s := { s with events := .quiet :: es }) he rfl hq).trans
    (congrArg _ hsame)

/-! ## The steps of a frame one after the other -/

theorem runSteps_add (m n : Nat) (s : State) :
    runSteps (m + n) s = andThen (runSteps m s) (runSteps n) := by
  induction m generalizing s with
  | zero => rw [Nat.zero_add]; rfl
  | succ m ih =>
    rw [Nat.succ_add, runSteps_succ, runSteps_succ, andThen_assoc]
    exact congrArg _ (funext ih)

/-- With nothing scheduled a frame step is its operation alone. -/
theorem runSteps_of_frame (n : Nat) (he : s.edge = none) (hv : s.events = []) (h : s.seq ≠ .wait) :
    runSteps (n + 1) s = runSteps n s.frameStep := by
  rw [runSteps_succ, step_of_no_event he hv, exec_seqInstr h, andThen_next]

/-- Three steps are a bit slot. -/
theorem runSteps_slot (he : s.edge = none) (hv : s.events = []) (h : s.seq = .sh i .a) :
    runSteps 3 s = .next (s.afterSlot i) := by
  rw [runSteps_of_frame 2 he hv (h ▸ Seq.noConfusion), State.frameStep_clkLow h,
    runSteps_of_frame 1 (by simpa using he) (by simpa using hv) Seq.noConfusion,
    State.frameStep_dataSet rfl,
    runSteps_of_frame 0 (by simpa using he) (by simpa using hv) Seq.noConfusion,
    State.frameStep_clkHigh rfl]
  rfl

/-- Three steps for each slot are the slots one after the other. -/
theorem runSteps_slots {is : List BitIndex} {r : Seq} (he : s.edge = none) (hv : s.events = [])
    (h : slotsLead s.seq is r) : runSteps (3 * is.length) s = .next (s.afterSlots is) := by
  induction is generalizing s with
  | nil => rfl
  | cons i is ih =>
    obtain ⟨hstart, hrest⟩ := h
    have hedge : (s.afterSlot i).edge = none := by rw [State.afterSlot_eq]; exact he
    have hevents : (s.afterSlot i).events = [] := by rw [State.afterSlot_eq]; exact hv
    rw [List.length_cons, Nat.mul_succ, Nat.add_comm, runSteps_add, runSteps_slot he hv hstart,
      andThen_next, ih hedge hevents hrest, State.afterSlots]

/-- Two steps are the latch pulse. -/
theorem runSteps_latchPulse (he : s.edge = none) (hv : s.events = []) (h : s.seq = .lt .hi) :
    runSteps 2 s = .next s.afterLatchPulse := by
  rw [runSteps_of_frame 1 he hv (h ▸ Seq.noConfusion), State.frameStep_latchHigh h,
    runSteps_of_frame 0 (by simpa using he) (by simpa using hv) Seq.noConfusion,
    State.frameStep_latchLow rfl]
  rfl

/-- With nothing scheduled 26 steps are the whole frame of the transmit byte. -/
theorem runSteps_frame (h : s.seq = .sh 0 .a) (he : s.edge = none) (hv : s.events = []) :
    runSteps 26 s = execShiftOut s.txb s := by
  have hlead : slotsLead s.seq allBits (.lt .hi) := h ▸ slotsLead_allBits
  have hstart : s.startFrame s.txb = s := by rw [State.startFrame, ← h]
  have hedge : (s.afterSlots allBits).edge = none := by rw [State.afterSlots_frame]; exact he
  have hevents : (s.afterSlots allBits).events = [] := by rw [State.afterSlots_frame]; exact hv
  rw [execShiftOut_of_mayStart (frameMayStart_of_firstStep h), hstart]
  exact (runSteps_add 24 2 s).trans (by
    rw [show 24 = 3 * allBits.length from rfl, runSteps_slots he hv hlead, andThen_next,
      runSteps_latchPulse hedge hevents (State.afterSlots_seq hlead)])

end

/-! ## Operations where the sequencer does not select them -/

section
variable {s : State} {i : BitIndex} {b : Byte}

theorem execTick_unselected (h : ¬ (s.seq = .wait ∧ s.pend = true)) :
    execTick s = .refused .notSelected := if_neg h

theorem execWait_unselected (h : ¬ (s.seq = .wait ∧ s.pend = false)) :
    execWait s = .refused .notSelected := if_neg h

theorem execClkLow_unselected (h : s.seq ≠ .sh i .a) :
    execClkLow i s = .refused .notSelected := if_neg h

theorem execDataSet_unselected (h : s.seq ≠ .sh i .b) :
    execDataSet i s = .refused .notSelected := if_neg h

theorem execClkHigh_unselected (h : s.seq ≠ .sh i .c) :
    execClkHigh i s = .refused .notSelected := if_neg h

theorem execLatchHigh_unselected (h : s.seq ≠ .lt .hi) :
    execLatchHigh s = .refused .notSelected := if_neg h

theorem execLatchLow_unselected (h : s.seq ≠ .lt .lo) :
    execLatchLow s = .refused .notSelected := if_neg h

/-- A sequence is refused where its first member is. -/
theorem execShiftBit_unselected (h : s.seq ≠ .sh i .a) :
    execShiftBit i s = .refused .notSelected := by
  rw [execShiftBit, execClkLow_unselected h, andThen_refused, andThen_refused]

theorem execLatchPulse_unselected (h : s.seq ≠ .lt .hi) :
    execLatchPulse s = .refused .notSelected := by
  rw [execLatchPulse, execLatchHigh_unselected h, andThen_refused]

theorem execShiftOut_unselected (h : ¬ (s.seq = .wait ∨ (s.seq = .sh 0 .a ∧ s.txb = b))) :
    execShiftOut b s = .refused .notSelected := if_neg (fun hm => h (frameMayStart_iff.mp hm))

end

section
variable {s t : State} {i : BitIndex}

/-- A bit entering the shift stages, as the shift and the OR of rule R211. -/
theorem State.shiftIn_sr_eq : s.shiftIn.sr = (s.sr >>> 1) ||| (if s.data then 0x80 else 0) := by
  refine BitVec.eq_of_getLsbD_eq fun k hk => ?_
  have hseven : ∀ k < 8, (0x80 : Byte).getLsbD k = decide (k = 7) := by decide
  have hdata : (if s.data then 0x80 else 0 : Byte).getLsbD k = (decide (k = 7) && s.data) := by
    cases s.data
    · simp
    · exact (hseven k hk).trans (Bool.and_true _).symm
  rw [State.shiftIn_bit, BitVec.getLsbD_or, BitVec.getLsbD_ushiftRight, hdata, Nat.add_comm 1]
  by_cases hlt : k < 7
  · simp [hlt, hlt.ne]
  · simp [hlt, BitVec.getLsbD_of_ge s.sr (k + 1) (by omega)]

/-- Where the sequencer goes after bit `i`, as the rule writes it (rule R155). -/
theorem afterClkHigh_eq :
    afterClkHigh i = if h : i.val < 7 then .sh ⟨i.val + 1, by omega⟩ .a else .lt .hi := by
  revert i; decide

/-! ## The levels at each step of a frame, from the invariant -/

theorem State.Inv.clock_of_dataSet (hs : s.Inv) (h : s.seq = .sh i .b) : s.clock = false := by
  have hlines := hs.lines
  rw [State.linesOk, h] at hlines
  obtain ⟨-, hclock⟩ := hlines
  exact hclock

/-- CLOCK and DATA where the clock rises (rule R162). -/
theorem State.Inv.lines_of_clkHigh (hs : s.Inv) (h : s.seq = .sh i .c) :
    s.clock = false ∧ s.data = s.txb.getLsbD i.val := by
  have hlines := hs.lines
  rw [State.linesOk, h] at hlines
  obtain ⟨-, hclock, hdata⟩ := hlines
  exact ⟨hclock, hdata⟩

theorem State.Inv.latch_of_latchHigh (hs : s.Inv) (h : s.seq = .lt .hi) : s.latch = false := by
  have hlines := hs.lines
  rw [State.linesOk, h] at hlines
  obtain ⟨hlatch, -⟩ := hlines
  exact hlatch

theorem State.Inv.latch_of_latchLow (hs : s.Inv) (h : s.seq = .lt .lo) : s.latch = true := by
  have hlines := hs.lines
  rw [State.linesOk, h] at hlines
  obtain ⟨hlatch, -⟩ := hlines
  exact hlatch

end

/-- Settles O28: the effect is that of driving DATA; the level is that of the invariant. -/
theorem dataSetDrivesTheBitOfTheTransmitByte :
    Obligations.DataSetDrivesTheBitOfTheTransmitByte := by
  unfold Obligations.DataSetDrivesTheBitOfTheTransmitByte
  refine fun i s h => ⟨?effect, fun hs => hs.clock_of_dataSet h⟩
  case effect => rw [exec, execDataSet_selected h, State.drive_data, State.goTo, bitOf]

/-- Settles O29: the effect is that of driving CLOCK high; the level is that of the invariant. -/
theorem clkHighDrivesTheClockHighAndShifts :
    Obligations.ClkHighDrivesTheClockHighAndShifts := by
  unfold Obligations.ClkHighDrivesTheClockHighAndShifts
  refine fun i s h => ⟨?effect, fun hs => (hs.lines_of_clkHigh h).1⟩
  case effect =>
    rw [exec, execClkHigh_selected h, State.drive_clock_high, State.goTo, afterClkHigh_eq,
      State.shiftIn_sr_eq]

/-- Settles O30: the effect is that of driving LATCH high; the level is that of the invariant. -/
theorem latchHighDrivesTheLatchHighAndCopies :
    Obligations.LatchHighDrivesTheLatchHighAndCopies := by
  unfold Obligations.LatchHighDrivesTheLatchHighAndCopies
  refine fun s h => ⟨?effect, fun hs => hs.latch_of_latchHigh h⟩
  case effect => rw [exec, execLatchHigh_selected h, State.drive_latch_high, State.goTo]

/-- Settles O31: the sequencer waits after the frame, so a pending pulse is what it serves next. -/
theorem latchLowEndsTheFrame : Obligations.LatchLowEndsTheFrame := by
  unfold Obligations.LatchLowEndsTheFrame
  refine fun s h => ⟨_, rfl, ?effect, fun hs => hs.latch_of_latchLow h, fun hp he hv => ?deferred⟩
  case effect =>
    rw [exec, execLatchLow_selected h, State.drive_latch_low, State.returnFromInterrupt]
  case deferred => exact step_of_instr he (by rw [State.envPoint] at hv ⊢; rw [hv, hp]; rfl)

/-- Settles O32: each operation tests its own state first, each sequence that of its first
member. -/
theorem unselectedStepsAreRefused : Obligations.UnselectedStepsAreRefused := by
  unfold Obligations.UnselectedStepsAreRefused
  refine fun s => ⟨execTick_unselected, execWait_unselected,
    fun i h => ⟨execClkLow_unselected h, execShiftBit_unselected h⟩,
    fun i => execDataSet_unselected, fun i => execClkHigh_unselected,
    fun h => ⟨execLatchHigh_unselected h, execLatchPulse_unselected h⟩, execLatchLow_unselected,
    fun b hq hb => execShiftOut_unselected (not_or.mpr ⟨hq, hb⟩),
    fun h m h1 hh hm hq hb => ?refresh⟩
  case refresh =>
    rw [exec, execRefresh_of_domain ((encodeDomain_iff h m).mpr ⟨⟨h1, hh⟩, hm⟩)]
    exact execShiftOut_unselected (not_or.mpr ⟨hq, hb⟩)

/-- Settles O35: eight slots take the byte in, the latch pulse copies it, and the traces and levels
are those of the 26 writes. -/
theorem shiftOutSendsTheFrame : Obligations.ShiftOutSendsTheFrame := by
  unfold Obligations.ShiftOutSendsTheFrame
  exact fun b s h => execShiftOut_eq h

/-- Settles O36: in the domain REFRESH is the frame of the byte ENCODE returns. -/
theorem refreshIsShiftOutOfEncode : Obligations.RefreshIsShiftOutOfEncode := by
  unfold Obligations.RefreshIsShiftOutOfEncode
  intro h m s h1 hh hm hstart
  have hd : encodeDomain h m = true := (encodeDomain_iff h m).mpr ⟨⟨h1, hh⟩, hm⟩
  exact ⟨_, (execRefresh_of_domain hd).trans (execShiftOut_eq hstart), execShiftOut_eq hstart,
    execEncode_of_domain hd⟩

/-- Settles O37: the eight slots show theirs, and then the latch pulse its two edges. -/
theorem frameShowsItsCountOfTransitions : Obligations.FrameShowsItsCountOfTransitions := by
  unfold Obligations.FrameShowsItsCountOfTransitions
  intro b d c
  obtain ⟨hrise, hfall, hhi, hlo, hdata⟩ := slots_transitions (b := b) allBits d c
  have hlevels : levelsAfter ⟨d, c, false⟩ (allBits.flatMap (slotEvents b)) =
    ⟨b.getLsbD 7, true, false⟩ := rfl
  have hpulse (v : Bool) : transitions ⟨v, true, false⟩ [⟨.latch, true⟩, ⟨.latch, false⟩] =
    [⟨.latch, true⟩, ⟨.latch, false⟩] := rfl
  simp only [frameEvents, transitions_append, hlevels, hpulse, List.count_append, hrise, hfall,
    hhi, hlo]
  exact ⟨rfl, by cases c <;> rfl, rfl, rfl, hdata⟩

/-- Settles O38: three steps for each slot, two for the latch pulse. -/
theorem twentySixStepsAreShiftOut : Obligations.TwentySixStepsAreShiftOut := by
  unfold Obligations.TwentySixStepsAreShiftOut
  exact fun s h he hv => runSteps_frame h he hv

/-- Settles O39: a block step is the frame's own step, a PULSE is latched, and RESET leads to
WAIT. -/
theorem frameTakesOneStepAtATime : Obligations.FrameTakesOneStepAtATime := by
  unfold Obligations.FrameTakesOneStepAtATime
  refine fun s t he hq hstep => ⟨fun hv => ?block, fun hv => ?pulse, fun hv => ?reset⟩
  case block =>
    cases (step_of_frame he hv hq).symm.trans hstep
    exact ⟨State.stepsLeft_frameStep (s := s.popEvent) hq, State.frameStep_txb (s := s.popEvent) hq⟩
  case pulse =>
    rw [step_of_instr he (i := .pulse) (by rw [hv]; rfl)] at hstep
    obtain ⟨-, rfl⟩ := execPulse_eq_next.mp hstep
    exact ⟨rfl, rfl⟩
  case reset =>
    rw [step_of_instr he (i := .reset) (by obtain hv | hv := hv <;> rw [hv] <;> rfl)] at hstep
    obtain ⟨-, rfl⟩ := execReset_eq_next.mp hstep
    rfl

/-- Settles O40: a step of a frame and the latching of a pulse touch different parts of the
state. -/
theorem pulseCommutesWithAFrameStep : Obligations.PulseCommutesWithAFrameStep := by
  unfold Obligations.PulseCommutesWithAFrameStep
  intro s rest he hq hp
  have hlatched : ({ s with pend := true } : State).frameStep = { s.frameStep with pend := true } :=
    (State.frameStep_with hq true s.events).trans (by rw [← State.frameStep_events hq])
  calc runSteps 2 { s with events := .pulse :: .quiet :: rest }
      = runSteps 1 { s with pend := true, events := .quiet :: rest } := by
        rw [runSteps_succ, step_scheduled_pulse _ he hp, andThen_next]
    _ = runSteps 0 { s.frameStep with pend := true, events := rest } := by
        rw [runSteps_succ, step_scheduled_frame (s := { s with pend := true }) rest he hq,
          andThen_next, hlatched]
    _ = runSteps 1 { s.frameStep with events := .pulse :: rest } := by
        rw [runSteps_succ, step_scheduled_pulse rest (State.frameStep_edge hq |>.trans he)
          (State.frameStep_pend hq |>.trans hp), andThen_next]
    _ = runSteps 2 { s with events := .quiet :: .pulse :: rest } := by
        rw [runSteps_succ 1 { s with events := _ }, step_scheduled_frame _ he hq, andThen_next]

/-- Settles O41: the bits of the shifted stages, one by one. -/
theorem shiftRegisterTakesDataAtPositionSeven :
    Obligations.ShiftRegisterTakesDataAtPositionSeven := by
  unfold Obligations.ShiftRegisterTakesDataAtPositionSeven
  refine fun s => ⟨_, rfl, rfl, ?entered, fun k hk => ?moved⟩
  case entered => simpa using State.shiftIn_bit s 7
  case moved => exact (State.shiftIn_bit s k).trans (if_pos hk)

/-- Settles O42: the copy is the whole effect. -/
theorem latchEdgeCopiesTheShiftStages : Obligations.LatchEdgeCopiesTheShiftStages := by
  unfold Obligations.LatchEdgeCopiesTheShiftStages
  exact fun s => rfl

end Sys2Proof.Machine

/-! The invariant (10_state.md section 2, 42_shift_out.md sections 3 and 4, 60_exceptions.md section
5): RESET establishes it, and every kind of step keeps it. -/

namespace Sys2Proof.Machine

section
variable {s t u : State} {i : BitIndex}

/-! ## The kinds of step -/

/-- What kind of step a completed step was: a reaction of the shift register, RESET, a change of
PEND or of the schedule alone, a TICK, or a step of the frame being sent. -/
inductive StepKind (s t : State) : Prop where
  | edge (d : DeviceEdge) (edge : s.edge = some d) (x y : Byte)
      (next : t = { s with sr := x, q := y, edge := none })
  | reset (edge : s.edge = none) (instr : nextInstr s = .ok .reset) (build : s.cfg.legal)
      (next : t = s.popEvent.initialise)
  | latch (edge : s.edge = none) (p : Bool) (es : List EnvPoint)
      (next : t = { s with pend := p, events := es })
  | tick (edge : s.edge = none) (instr : nextInstr s = .ok .tick) (seq : s.seq = .wait)
      (next : finishTick (tickStage s.popEvent.takeInterrupt).1
        (tickStage s.popEvent.takeInterrupt).2 = .next t)
  | frame (edge : s.edge = none) (seq : s.seq ≠ .wait) (next : t = s.popEvent.frameStep)

theorem Stepped.kind (h : Stepped s t) : StepKind s t := by
  cases h with
  | clockEdge edge next => exact .edge _ edge s.shiftIn.sr s.q next
  | latchEdge edge next => exact .edge _ edge s.sr s.sr next
  | reset edge instr event build next => exact .reset edge instr build next
  | pulse edge instr event pend next => exact .latch edge true s.events.tail next
  | wait edge instr event seq pend next => exact .latch edge s.pend s.events.tail next
  | tick edge instr event seq pend next => exact .tick edge instr seq next
  | clkLow i edge instr event seq next =>
    exact .frame edge (seq ▸ Seq.noConfusion)
      (next.trans (State.frameStep_clkLow (s := s.popEvent) seq).symm)
  | dataSet i edge instr event seq next =>
    exact .frame edge (seq ▸ Seq.noConfusion)
      (next.trans (State.frameStep_dataSet (s := s.popEvent) seq).symm)
  | clkHigh i edge instr event seq next =>
    exact .frame edge (seq ▸ Seq.noConfusion)
      (next.trans (State.frameStep_clkHigh (s := s.popEvent) seq).symm)
  | latchHigh edge instr event seq next =>
    exact .frame edge (seq ▸ Seq.noConfusion)
      (next.trans (State.frameStep_latchHigh (s := s.popEvent) seq).symm)
  | latchLow edge instr event seq next =>
    exact .frame edge (seq ▸ Seq.noConfusion)
      (next.trans (State.frameStep_latchLow (s := s.popEvent) seq).symm)

/-- What a TICK leaves alone (rules R101, R107). -/
theorem finishTick_frame {c : Bool} (h : finishTick (tickStage s).1 c = .next t) :
    t = { s with
      tick := t.tick, sec := t.sec, min := t.min, hour := t.hour, seq := t.seq, txb := t.txb,
      free := t.free } := by
  obtain ⟨-, rfl⟩ | ⟨-, -, rfl⟩ := finishTick_eq_next.mp h
  · rw [tickStage_frame]
  · rw [tickStage_frame]
    rfl

/-! ## RESET, and the parts the invariant does not speak of -/

theorem State.resetWith_timeOk {p : Params} (h : p.legal) : (State.resetWith p).timeOk := by
  obtain ⟨⟨hF, -⟩, ⟨hh, hh'⟩, hm, hs⟩ := h
  simp only [State.timeOk, State.resetWith, BitVec.ofNat_eq_ofNat, BitVec.toNat_ofNat]
  omega

theorem State.inv_resetWith {p : Params} (h : p.legal) : (State.resetWith p).Inv where
  build := h
  time := State.resetWith_timeOk h
  lines := ⟨rfl, fun _ => ⟨rfl, rfl⟩, fun hwt => absurd rfl hwt⟩
  device := fun hwt => absurd rfl hwt
  shown := fun hsent => hsent.elim (absurd rfl) (absurd rfl)
  traces := ⟨rfl, rfl⟩
  noEdge := rfl

theorem State.inv_initialise (h : s.cfg.legal) (he : s.edge = none) : s.initialise.Inv where
  build := h
  time := State.initialise_timeOk h
  lines := ⟨rfl, fun _ => ⟨rfl, rfl⟩, fun hwt => absurd rfl hwt⟩
  device := fun hwt => absurd rfl hwt
  shown := fun hsent => hsent.elim (absurd rfl) (absurd rfl)
  traces := ⟨rfl, rfl⟩
  noEdge := he

/-- The invariant speaks of neither the pending latch nor the schedule. -/
theorem State.Inv.with_pend_events (h : s.Inv) (p : Bool) (es : List EnvPoint) :
    ({ s with pend := p, events := es } : State).Inv :=
  ⟨h.build, h.time, h.lines, h.device, h.shown, h.traces, h.noEdge⟩

/-! ## A TICK -/

/-- A TICK with no minute change keeps the minutes and the hours. -/
theorem Cascade.shown_eq (h : Cascade s u false) :
    u.min.toNat = s.min.toNat ∧ u.hour.toNat = s.hour.toNat := by
  cases h with
  | tick more tick sec min hour => exact ⟨min, hour⟩
  | sec rolled more tick sec min hour => exact ⟨min, hour⟩

/-- Without a minute change the byte of the time stays the same. -/
theorem State.Inv.tickStage_of_unchanged (hs : s.Inv) (hc : (tickStage s).2 = false) :
    (tickStage s).1.Inv := by
  have htime : (tickStage s).1.timeOk := tickStage_timeOk s hs.build.mainsHz_le hs.time
  have hcascade := cascade_tickStage hs.build.mainsHz_le hs.time
  rw [hc] at hcascade
  obtain ⟨hmin, hhour⟩ := hcascade.shown_eq
  have hshown := hs.shown
  rw [State.txbOk, ← hmin, ← hhour] at hshown
  rw [tickStage_frame_of_timeOk hs.build.mainsHz_le hs.time] at htime ⊢
  exact ⟨hs.build, htime, hs.lines, hs.device, hshown, hs.traces, hs.noEdge⟩

/-- A frame starts with the levels between frames, for the byte of the time just reached. -/
theorem State.Inv.tickStage_startFrame (hs : s.Inv) (hq : s.seq = .wait) :
    ((tickStage s).1.startFrame
      (encodeByte (tickStage s).1.hour.toNat (tickStage s).1.min.toNat)).Inv := by
  have htime : (tickStage s).1.timeOk := tickStage_timeOk s hs.build.mainsHz_le hs.time
  have hlines := hs.lines
  rw [State.linesOk, hq] at hlines
  obtain ⟨hlatch, hfirst, hlater⟩ := hlines
  rw [tickStage_frame_of_timeOk hs.build.mainsHz_le hs.time] at htime ⊢
  exact
    { build := hs.build
      time := htime
      lines := ⟨hlatch, fun _ => ⟨hfirst, fun hwt => (hlater hwt).2⟩, fun hne => absurd rfl hne⟩
      device := State.holdsBits_zero
      shown := fun _ => rfl
      traces := hs.traces
      noEdge := hs.noEdge }

/-- A minute change starts a frame under either policy. -/
theorem refreshCondition_true (p : RefreshPolicy) : refreshCondition p true = true := by
  cases p <;> rfl

theorem State.Inv.of_finishTick (hs : s.Inv) (hq : s.seq = .wait)
    (h : finishTick (tickStage s).1 (tickStage s).2 = .next t) : t.Inv := by
  obtain ⟨hnone, rfl⟩ | ⟨-, -, rfl⟩ := finishTick_eq_next.mp h
  · refine hs.tickStage_of_unchanged ?_
    rw [← Bool.not_eq_true]
    intro hc
    rw [hc, refreshCondition_true] at hnone
    exact nomatch hnone
  · exact hs.tickStage_startFrame hq

/-! ## A step of a frame -/

/-- The lines at the sequencer state a frame step leads to. -/
theorem State.linesOk_frameStep (hl : s.linesOk) (hq : s.seq ≠ .wait) : s.frameStep.linesOk := by
  cases h : s.seq with
  | wait => exact absurd h hq
  | sh i x =>
    cases x with
    | a =>
      rw [State.linesOk, h] at hl
      obtain ⟨hlatch, -⟩ := hl
      rw [State.frameStep_clkLow h, State.drive_clock_low]
      exact ⟨hlatch, rfl⟩
    | b =>
      rw [State.linesOk, h] at hl
      obtain ⟨hlatch, hclock⟩ := hl
      rw [State.frameStep_dataSet h, State.drive_data]
      exact ⟨hlatch, hclock, rfl⟩
    | c =>
      rw [State.linesOk, h] at hl
      obtain ⟨hlatch, -, hdata⟩ := hl
      rw [State.frameStep_clkHigh h, State.drive_clock_high, afterClkHigh]
      split
      · exact ⟨hlatch, fun hzero => absurd (congrArg Fin.val hzero) (Nat.succ_ne_zero _),
          fun _ => ⟨hdata, rfl⟩⟩
      · have hseven : i.val = 7 := by omega
        rw [hseven] at hdata
        exact ⟨hlatch, rfl, hdata⟩
  | lt x =>
    cases x with
    | hi =>
      rw [State.linesOk, h] at hl
      obtain ⟨-, hclock, hdata⟩ := hl
      rw [State.frameStep_latchHigh h, State.drive_latch_high]
      exact ⟨rfl, hclock, hdata⟩
    | lo =>
      rw [State.linesOk, h] at hl
      obtain ⟨-, hclock, hdata⟩ := hl
      rw [State.frameStep_latchLow h, State.drive_latch_low]
      exact ⟨rfl, fun hwt => absurd hwt (by simp), fun _ => ⟨hdata, hclock⟩⟩

/-- What the shift register holds at the sequencer state a frame step leads to. -/
theorem State.deviceOk_frameStep (hs : s.Inv) (hq : s.seq ≠ .wait) : s.frameStep.deviceOk := by
  have hd := hs.device
  cases h : s.seq with
  | wait => exact absurd h hq
  | sh i x =>
    rw [State.deviceOk, h] at hd
    cases x with
    | a => rw [State.frameStep_clkLow h, State.drive_clock_low]; exact hd
    | b => rw [State.frameStep_dataSet h, State.drive_data]; exact hd
    | c =>
      obtain ⟨hclock, hdata⟩ := hs.lines_of_clkHigh h
      have htaken : s.shiftIn.holdsBits (i.val + 1) := State.holdsBits_shiftIn i.isLt hd hdata
      rw [State.frameStep_clkHigh h, State.drive_clock_high, hclock, afterClkHigh]
      split
      · exact htaken
      · have hseven : i.val = 7 := by omega
        rw [hseven] at htaken
        exact State.holdsBits_eight.mp htaken
  | lt x =>
    rw [State.deviceOk, h] at hd
    cases x with
    | hi =>
      rw [State.frameStep_latchHigh h, State.drive_latch_high, hs.latch_of_latchHigh h]
      exact ⟨hd, hd⟩
    | lo => rw [State.frameStep_latchLow h, State.drive_latch_low]; exact fun _ => hd

/-- Writes keep the traces in step with the lines (rule R17). -/
theorem State.Wrote.tracesOk {es : List WireEvent} (h : s.Wrote es t) (hs : s.tracesOk) :
    t.tracesOk := by
  obtain ⟨htt, hlevels⟩ := hs
  obtain ⟨hwt', htt', hlevels'⟩ := h
  rw [State.tracesOk, hwt', htt', hlevels', htt, hlevels, transitions_append, levelsAfter_append]
  exact ⟨rfl, rfl⟩

theorem State.Inv.frameStep (hs : s.Inv) (hq : s.seq ≠ .wait) : s.frameStep.Inv := by
  have hlines := State.linesOk_frameStep hs.lines hq
  have hdevice := State.deviceOk_frameStep hs hq
  obtain ⟨L, v, q, hdrive⟩ := State.frameStep_eq_drive hq
  rw [hdrive] at hlines hdevice ⊢
  exact
    { build := by simpa using hs.build
      time := by simpa [State.timeOk] using hs.time
      lines := hlines
      device := hdevice
      shown := fun _ => by simpa using hs.shown (.inl hq)
      traces := (State.wrote_drive_goTo L v q).tracesOk hs.traces
      noEdge := by simpa using hs.noEdge }

/-! ## Every step -/

theorem State.Inv.step (hs : s.Inv) (h : step s = .next t) : t.Inv := by
  cases (stepped_of_step h).kind with
  | edge d edge x y next => exact nomatch hs.noEdge.symm.trans edge
  | reset edge instr build next =>
    exact next ▸ State.inv_initialise (s := s.popEvent) build hs.noEdge
  | latch edge p es next => exact next ▸ hs.with_pend_events p es
  | tick edge instr seq next =>
    exact (hs.with_pend_events false s.events.tail).of_finishTick seq next
  | frame edge seq next => exact next ▸ (hs.with_pend_events s.pend s.events.tail).frameStep seq

theorem State.Inv.runSteps {n : Nat} (hs : s.Inv) (h : runSteps n s = .next t) : t.Inv := by
  induction n generalizing s with
  | zero => cases h; exact hs
  | succ n ih =>
    obtain ⟨u, hstep, hrest⟩ := andThen_eq_next.mp h
    exact ih (hs.step hstep) hrest

/-- At rest after a frame the shift register shows the time (rules R214, R215). -/
theorem State.Inv.shown_at_rest (hs : s.Inv) (hq : s.seq = .wait) (hwt : s.wt ≠ []) :
    s.q = encodeByte s.hour.toNat s.min.toNat ∧ s.sr = s.q ∧ s.clock = true ∧ s.latch = false := by
  have hlines := hs.lines
  have hdevice := hs.device
  rw [State.linesOk, hq] at hlines
  rw [State.deviceOk, hq] at hdevice
  obtain ⟨hlatch, -, hlater⟩ := hlines
  obtain ⟨-, hclock⟩ := hlater hwt
  obtain ⟨hsr, hqs⟩ := hdevice hwt
  exact ⟨hqs.trans (hs.shown (.inr hwt)), hsr.trans hqs.symm, hclock, hlatch⟩

/-- The sequencer's operation completes from every state of the invariant. -/
theorem State.Inv.exec_seqInstr (hs : s.Inv) : ∃ t, exec (s.seq.instr s.pend) s = .next t := by
  by_cases hq : s.seq = .wait
  · cases hp : s.pend with
    | true => rw [hq]; exact ⟨_, execTick_of_timeOk hs.build.mainsHz_le hs.time hq hp⟩
    | false => rw [hq]; exact ⟨_, execWait_selected hq hp⟩
  · exact ⟨_, Machine.exec_seqInstr hq s.pend⟩

end

/-- Settles O48: each kind of step keeps each part of the invariant. -/
theorem everyStepKeepsTheInvariant : Obligations.EveryStepKeepsTheInvariant := by
  unfold Obligations.EveryStepKeepsTheInvariant
  exact fun s t hs h => hs.step h

/-- Settles O49, by induction over the run: the invariant holds at its end. -/
theorem ledsShowTheTimeAtRest : Obligations.LedsShowTheTimeAtRest := by
  unfold Obligations.LedsShowTheTimeAtRest
  exact fun n s t hs h hq hwt => (hs.runSteps h).shown_at_rest hq hwt

/-- Settles O47: in the reset state nothing is driven, sent or shown. -/
theorem resetStateMeetsTheInvariant : Obligations.ResetStateMeetsTheInvariant := by
  unfold Obligations.ResetStateMeetsTheInvariant
  exact fun p h => State.inv_resetWith h

/-- Settles O50: RESET of a legal build, a pulse that can be latched and the sequencer's own
operation all complete. -/
theorem onlyAnOverrunStopsARun : Obligations.OnlyAnOverrunStopsARun := by
  unfold Obligations.OnlyAnOverrunStopsARun
  refine fun s hs => ⟨fun ⟨hv, hp⟩ => ?overrun, fun hnone => ?completes⟩
  case overrun =>
    rw [step_of_instr hs.noEdge (i := .pulse) (by rw [hv]; rfl)]
    exact execPulse_overrun hp
  case completes =>
    have hreset (hi : s.envPoint.instr s.seq s.pend = .reset) : ∃ t, step s = .next t := by
      rw [step_of_instr hs.noEdge hi]
      exact ⟨_, execReset_eq_next.mpr ⟨hs.build, rfl⟩⟩
    cases hv : s.envPoint with
    | reset | resetAndPulse => exact hreset (by rw [hv]; rfl)
    | pulse =>
      have hp : s.pend = false := by
        rw [← Bool.not_eq_true]; exact fun hp => hnone ⟨hv, hp⟩
      exact ⟨_, step_of_pulse hs.noEdge hv hp⟩
    | quiet =>
      rw [step_of_no_edge s hs.noEdge, hv]
      exact (hs.with_pend_events s.pend s.events.tail).exec_seqInstr

/-- Settles O44: of all steps only CLK_HIGH raises the clock, and the invariant says what DATA is
there. -/
theorem dataIsTheBitAtEveryRisingClockEdge :
    Obligations.DataIsTheBitAtEveryRisingClockEdge := by
  unfold Obligations.DataIsTheBitAtEveryRisingClockEdge
  intro s t hs h hlow hhigh
  cases stepped_of_step h with
  | clkHigh i edge instr event seq next =>
    rw [State.drive_clock_high] at next
    subst next
    obtain ⟨-, hdata⟩ := hs.lines_of_clkHigh seq
    refine ⟨i, seq, hdata, rfl, ?_⟩
    show (if s.clock then s.sr else s.shiftIn.sr).getLsbD 7 = s.data
    rw [hlow]
    exact (State.shiftIn_bit s 7).trans (Bool.true_and _)
  | clockEdge edge next
  | latchEdge edge next => exact nomatch hs.noEdge.symm.trans edge
  | reset edge instr event build next => subst next; nomatch hhigh
  | pulse edge instr event pend next
  | wait edge instr event seq pend next => subst next; exact nomatch hlow.symm.trans hhigh
  | tick edge instr event seq pend next =>
    have hclock : t.clock = s.clock := by rw [finishTick_frame next]; rfl
    exact nomatch (hclock.trans hlow).symm.trans hhigh
  | clkLow i edge instr event seq next =>
    rw [State.drive_clock_low] at next; subst next; nomatch hhigh
  | dataSet i edge instr event seq next =>
    rw [State.drive_data] at next; subst next; exact nomatch hlow.symm.trans hhigh
  | latchHigh edge instr event seq next =>
    rw [State.drive_latch_high] at next; subst next; exact nomatch hlow.symm.trans hhigh
  | latchLow edge instr event seq next =>
    rw [State.drive_latch_low] at next; subst next; exact nomatch hlow.symm.trans hhigh

end Sys2Proof.Machine

/-! What every operation and every step can answer and can touch (20_memory.md, 60_exceptions.md),
and what they do not read (10_state.md sections 3 and 7). -/

namespace Sys2Proof.Machine

/-! ## The answers of the operations -/

/-- The answer is a next state or one of the refusals `rs`. -/
def Answers (r : Result) (rs : List Refusal) : Prop :=
  (∃ t, r = .next t) ∨ ∃ e ∈ rs, r = .refused e

section
variable {s t u : State} {i : BitIndex} {b : Byte} {r : Result} {e : Refusal} {rs : List Refusal}

theorem answers_next : Answers (.next t) rs := .inl ⟨t, rfl⟩

theorem answers_refused (h : e ∈ rs) : Answers (.refused e) rs := .inr ⟨e, h, rfl⟩

theorem Answers.mem_of_refused (h : Answers (.refused e) rs) : e ∈ rs := by
  obtain ⟨t, ht⟩ | ⟨e', he, hr⟩ := h
  · exact nomatch ht
  · cases hr; exact he

theorem Answers.mono {rs' : List Refusal} (h : Answers r rs) (hsub : rs ⊆ rs') : Answers r rs' :=
  h.imp_right fun ⟨e, he, hr⟩ => ⟨e, hsub he, hr⟩

theorem execReset_answers : Answers (execReset s) [.badConfig] := by
  by_cases h : s.cfg.legal
  · exact .inl ⟨_, execReset_eq_next.mpr ⟨h, rfl⟩⟩
  · rw [execReset_illegal h]; exact answers_refused (.head _)

theorem execPulse_answers : Answers (execPulse s) [.pulseOverrun] := by
  unfold execPulse
  split
  · exact answers_refused (.head _)
  · exact answers_next

theorem finishTick_answers (c : Bool) : Answers (finishTick s c) [.encodeDomain] := by
  unfold finishTick startRefresh
  split
  · split
    · exact answers_next
    · exact answers_refused (.head _)
  · exact answers_next

theorem execTick_answers : Answers (execTick s) [.notSelected, .encodeDomain] := by
  by_cases h : s.seq = .wait ∧ s.pend = true
  · rw [execTick_selected h.1 h.2]
    exact (finishTick_answers _).mono (List.subset_cons_self _ _)
  · rw [execTick_unselected h]; exact answers_refused (.head _)

theorem execShiftOut_answers : Answers (execShiftOut b s) [.notSelected] := by
  by_cases h : s.seq = .wait ∨ (s.seq = .sh 0 .a ∧ s.txb = b)
  · rw [execShiftOut_eq h]; exact answers_next
  · rw [execShiftOut_unselected h]; exact answers_refused (.head _)

/-- An operation of the sequencer completes where it is selected and is refused elsewhere. -/
theorem answers_of_selected {P : Prop} (hsel : P → ∃ t, r = .next t)
    (hun : ¬ P → r = .refused .notSelected) : Answers r [.notSelected] := by
  by_cases h : P
  · exact .inl (hsel h)
  · exact .inr ⟨_, .head _, hun h⟩

/-- What every operation can answer (log entry 11). -/
theorem exec_answers (j : Instr) (s : State) : Answers (exec j s) (refusalsOf j) := by
  cases j with
  | reset => exact execReset_answers
  | pulse => exact execPulse_answers
  | tick => exact execTick_answers
  | wait =>
    exact answers_of_selected (fun ⟨hq, hp⟩ => ⟨_, execWait_selected hq hp⟩) execWait_unselected
  | clkLow i =>
    exact answers_of_selected (fun h => ⟨_, execClkLow_selected h⟩) execClkLow_unselected
  | dataSet i =>
    exact answers_of_selected (fun h => ⟨_, execDataSet_selected h⟩) execDataSet_unselected
  | clkHigh i =>
    exact answers_of_selected (fun h => ⟨_, execClkHigh_selected h⟩) execClkHigh_unselected
  | latchHigh =>
    exact answers_of_selected (fun h => ⟨_, execLatchHigh_selected h⟩) execLatchHigh_unselected
  | latchLow =>
    exact answers_of_selected (fun h => ⟨_, execLatchLow_selected h⟩) execLatchLow_unselected
  | shiftBit i =>
    exact answers_of_selected (fun h => ⟨_, execShiftBit_selected h⟩) execShiftBit_unselected
  | latchPulse =>
    exact answers_of_selected (fun h => ⟨_, execLatchPulse_selected h⟩) execLatchPulse_unselected
  | shiftOut b => exact execShiftOut_answers
  | encode h m =>
    by_cases hd : encodeDomain h m = true
    · exact .inl ⟨_, execEncode_of_domain hd⟩
    · exact .inr ⟨_, .head _, execEncode_of_not_domain hd⟩
  | refresh h m =>
    by_cases hd : encodeDomain h m = true
    · rw [exec, execRefresh_of_domain hd]
      exact execShiftOut_answers.mono (List.subset_cons_self _ _)
    · exact .inr ⟨_, .head _, execRefresh_of_not_domain hd⟩
  | tickInc | secInc | minInc | hourInc | tens m | five m | srShift | srLatch =>
    exact answers_next

/-! ## The answers of the steps -/

/-- The operation the sequencer selects can only leave the domain of ENCODE. -/
theorem exec_seqInstr_answers (s : State) :
    Answers (exec (s.seq.instr s.pend) s) [.encodeDomain] := by
  by_cases hq : s.seq = .wait
  · cases hp : s.pend with
    | true => rw [hq, Seq.instr, exec, execTick_selected hq hp]; exact finishTick_answers _
    | false => rw [hq, Seq.instr, exec, execWait_selected hq hp]; exact answers_next
  · rw [exec_seqInstr hq]; exact answers_next

/-- A step stops for an overrun, outside the domain of ENCODE or in an illegal build only. -/
theorem step_answers (s : State) :
    Answers (step s) [.pulseOverrun, .encodeDomain, .badConfig] := by
  cases he : s.edge with
  | some d => rw [step_of_edge s d he]; cases d <;> exact answers_next
  | none =>
    rw [step_of_no_edge s he]
    cases s.envPoint with
    | reset | resetAndPulse =>
      exact (execReset_answers (s := s.popEvent)).mono (by decide)
    | pulse => exact (execPulse_answers (s := s.popEvent)).mono (by decide)
    | quiet => exact (exec_seqInstr_answers s.popEvent).mono (by decide)

end

section
variable {s t u : State} {i : BitIndex} {j : Instr} {b : Byte} {e : WireEvent}

/-! ## What a step changes -/

/-- The stage that changes a register of a later stage was reached by rollovers (rules R102 to
R105). -/
theorem tickStage_changes :
    ((tickStage s).1.sec ≠ s.sec → s.tick.toNat + 1 = s.cfg.mainsHz) ∧
      ((tickStage s).1.min ≠ s.min → s.tick.toNat + 1 = s.cfg.mainsHz ∧ s.sec.toNat + 1 = 60) ∧
      ((tickStage s).1.hour ≠ s.hour → s.tick.toNat + 1 = s.cfg.mainsHz ∧
        s.sec.toNat + 1 = 60 ∧ s.min.toNat + 1 = 60) := by
  unfold tickStage
  split
  next hroll =>
    unfold secStage
    split
    next hsec =>
      refine ⟨fun _ => hroll, fun _ => ⟨hroll, hsec⟩, ?_⟩
      unfold minStage
      split
      next hmin => exact fun _ => ⟨hroll, hsec, hmin⟩
      next => exact fun h => absurd rfl h
    next => exact ⟨fun _ => hroll, fun h => absurd rfl h, fun h => absurd rfl h⟩
  next => exact ⟨fun h => absurd rfl h, fun h => absurd rfl h, fun h => absurd rfl h⟩

/-- A step of a frame changes no time register (rule R52). -/
theorem State.sameTime_frameStep (h : s.seq ≠ .wait) : s.SameTime s.popEvent.frameStep := by
  obtain ⟨L, v, q, hdrive⟩ := State.frameStep_eq_drive (s := s.popEvent) h
  rw [hdrive]
  exact State.sameTime_drive_goTo L v q

theorem State.Wrote.of_popEvent {es : List WireEvent} (h : s.popEvent.Wrote es t) :
    s.Wrote es t := ⟨h.wt, h.tt, h.levels⟩

/-- Where the lines and the traces are as they were, nothing was written. -/
theorem State.wrote_nothing (hwt : t.wt = s.wt) (htt : t.tt = s.tt) (hl : t.levels = s.levels) :
    s.Wrote [] t := ⟨by simp [hwt], by simp [htt, transitions], hl⟩

/-- The one write of an operation, by the line it drives (rules R53 to R57, R153 to R158). -/
def Instr.write (b : Byte) : Instr → Option WireEvent
  | .clkLow _ => some ⟨.clock, false⟩
  | .dataSet k => some ⟨.data, b.getLsbD k.val⟩
  | .clkHigh _ => some ⟨.clock, true⟩
  | .latchHigh => some ⟨.latch, true⟩
  | .latchLow => some ⟨.latch, false⟩
  | _ => none

/-- Every completed step but RESET makes exactly the write of its operation. -/
theorem Stepped.wrote (h : Stepped s t) (hj : nextInstr s = .ok j) (hreset : j ≠ .reset) :
    s.Wrote (Instr.write s.txb j).toList t := by
  cases h with
  | clockEdge edge next =>
    cases hj.symm.trans (nextInstr_of_edge s _ edge); subst next
    exact State.wrote_nothing rfl rfl rfl
  | latchEdge edge next =>
    cases hj.symm.trans (nextInstr_of_edge s _ edge); subst next
    exact State.wrote_nothing rfl rfl rfl
  | reset edge instr event build next => cases hj.symm.trans instr; exact absurd rfl hreset
  | pulse edge instr event pend next
  | wait edge instr event seq pend next =>
    cases hj.symm.trans instr; subst next
    exact State.wrote_nothing rfl rfl rfl
  | tick edge instr event seq pend next =>
    cases hj.symm.trans instr
    have hframe := finishTick_frame next
    rw [hframe]
    exact State.wrote_nothing rfl rfl rfl
  | clkLow i edge instr event seq next
  | dataSet i edge instr event seq next
  | clkHigh i edge instr event seq next
  | latchHigh edge instr event seq next =>
    cases hj.symm.trans instr; subst next
    exact (State.wrote_drive_goTo _ _ _).of_popEvent
  | latchLow edge instr event seq next =>
    cases hj.symm.trans instr; subst next
    exact (State.wrote_drive_goTo _ _ .wait).of_popEvent

/-- Write by write, what `Wrote` says of one event. -/
theorem State.Wrote.single (h : s.Wrote [e] t) :
    t.levels = s.levels.after e ∧ t.wt = s.wt ++ [e] := ⟨h.levels, h.wt⟩

/-! ## The build and the schedule -/

/-- `t` is the same build as `s` with the same schedule before it. -/
structure State.SameEnv (s t : State) : Prop where
  cfg : t.cfg = s.cfg
  events : t.events = s.events

theorem finishTick_sameEnv {c : Bool} (h : finishTick s c = .next t) : s.SameEnv t := by
  obtain ⟨-, rfl⟩ | ⟨-, -, rfl⟩ := finishTick_eq_next.mp h <;> exact ⟨rfl, rfl⟩

theorem execShiftOut_sameEnv (h : execShiftOut b s = .next t) : s.SameEnv t := by
  by_cases hsel : s.seq = .wait ∨ (s.seq = .sh 0 .a ∧ s.txb = b)
  · rw [execShiftOut_eq hsel] at h; cases h; exact ⟨rfl, rfl⟩
  · rw [execShiftOut_unselected hsel] at h; cases h

/-- Where an operation completes it was selected. -/
theorem of_selected {P : Prop} {r : Result} (hsel : P → r = .next u)
    (hun : ¬ P → r = .refused .notSelected) (h : r = .next t) : t = u := by
  by_cases hp : P
  · rw [hsel hp] at h; cases h; rfl
  · rw [hun hp] at h; cases h

/-- No operation writes the build or the schedule (rule R63). -/
theorem exec_sameEnv (h : exec j s = .next t) : s.SameEnv t := by
  cases j with
  | reset => obtain ⟨-, rfl⟩ := execReset_eq_next.mp h; exact ⟨rfl, rfl⟩
  | pulse => obtain ⟨-, rfl⟩ := execPulse_eq_next.mp h; exact ⟨rfl, rfl⟩
  | tick =>
    by_cases hsel : s.seq = .wait ∧ s.pend = true
    · rw [exec, execTick_selected hsel.1 hsel.2] at h
      obtain ⟨hcfg, hevents⟩ := finishTick_sameEnv h
      exact ⟨hcfg.trans (tickStage_cfg _), hevents.trans (tickStage_events _)⟩
    · rw [exec, execTick_unselected hsel] at h; cases h
  | tickInc => cases h; exact ⟨tickStage_cfg s, tickStage_events s⟩
  | secInc => cases h; exact ⟨secStage_cfg s, secStage_events s⟩
  | minInc => cases h; exact ⟨minStage_cfg s, minStage_events s⟩
  | hourInc => cases h; exact ⟨hourStage_cfg s, hourStage_events s⟩
  | wait =>
    cases of_selected (fun ⟨hq, hp⟩ => execWait_selected hq hp) execWait_unselected h
    exact ⟨rfl, rfl⟩
  | encode hours minutes =>
    by_cases hd : encodeDomain hours minutes = true
    · rw [exec, execEncode_of_domain hd] at h; cases h; exact ⟨rfl, rfl⟩
    · rw [exec, execEncode_of_not_domain hd] at h; cases h
  | tens minutes | five minutes => cases h; constructor <;> split <;> rfl
  | refresh hours minutes =>
    by_cases hd : encodeDomain hours minutes = true
    · rw [exec, execRefresh_of_domain hd] at h; exact execShiftOut_sameEnv h
    · rw [exec, execRefresh_of_not_domain hd] at h; cases h
  | shiftOut b => exact execShiftOut_sameEnv h
  | shiftBit i =>
    cases of_selected execShiftBit_selected execShiftBit_unselected h
    rw [State.afterSlot_eq]; exact ⟨rfl, rfl⟩
  | latchPulse =>
    cases of_selected execLatchPulse_selected execLatchPulse_unselected h
    rw [State.afterLatchPulse_eq]; exact ⟨rfl, rfl⟩
  | clkLow i =>
    cases of_selected execClkLow_selected execClkLow_unselected h
    exact ⟨State.drive_cfg s _ _, State.drive_events s _ _⟩
  | dataSet i =>
    cases of_selected execDataSet_selected execDataSet_unselected h
    exact ⟨State.drive_cfg s _ _, State.drive_events s _ _⟩
  | clkHigh i =>
    cases of_selected execClkHigh_selected execClkHigh_unselected h
    exact ⟨State.drive_cfg s _ _, State.drive_events s _ _⟩
  | latchHigh =>
    cases of_selected execLatchHigh_selected execLatchHigh_unselected h
    exact ⟨State.drive_cfg s _ _, State.drive_events s _ _⟩
  | latchLow =>
    cases of_selected execLatchLow_selected execLatchLow_unselected h
    exact ⟨State.drive_cfg s _ _, State.drive_events s _ _⟩
  | srShift | srLatch => cases h; exact ⟨rfl, rfl⟩

/-! ## What the block does not read -/

/-- The state with other bytes in the shift register and the transmit byte. -/
def State.withBytes (x y z : Byte) (s : State) : State := { s with sr := x, q := y, txb := z }

variable {x y z : Byte}

/-! The cascade reads none of the three bytes and leaves them alone. -/

theorem hourStage_withBytes : hourStage (s.withBytes x y z) = (hourStage s).withBytes x y z := by
  have hread : (s.withBytes x y z).hour = s.hour := rfl
  rw [hourStage, hourStage, hread]
  split <;> rfl

theorem minStage_withBytes : minStage (s.withBytes x y z) = (minStage s).withBytes x y z := by
  have hread : (s.withBytes x y z).min = s.min := rfl
  rw [minStage, minStage, hread]
  split
  · exact hourStage_withBytes (s := { s with min := 0 })
  · rfl

theorem secStage_withBytes :
    secStage (s.withBytes x y z) = ((secStage s).1.withBytes x y z, (secStage s).2) := by
  have hread : (s.withBytes x y z).sec = s.sec := rfl
  rw [secStage, secStage, hread]
  split
  · exact congrArg (·, true) (minStage_withBytes (s := { s with sec := 0 }))
  · rfl

theorem tickStage_withBytes :
    tickStage (s.withBytes x y z) = ((tickStage s).1.withBytes x y z, (tickStage s).2) := by
  have hread : (s.withBytes x y z).tick = s.tick := rfl
  have hbuild : (s.withBytes x y z).cfg = s.cfg := rfl
  rw [tickStage, tickStage, hread, hbuild]
  split
  · exact secStage_withBytes (s := { s with tick := 0 })
  · rfl

end

section
variable {s s' t u : State} {x y z : Byte} {f : State → Result}

/-! Operations answer alike in states that agree on what they read. -/

theorem execReset_congr (hcfg : s'.cfg = s.cfg) (hf : f s'.initialise = f s.initialise) :
    andThen (execReset s') f = andThen (execReset s) f := by
  rw [execReset, execReset, hcfg]
  split
  · exact hf
  · rfl

theorem execPulse_congr (hpend : s'.pend = s.pend)
    (hf : f { s' with pend := true } = f { s with pend := true }) :
    andThen (execPulse s') f = andThen (execPulse s) f := by
  rw [execPulse, execPulse, hpend]
  split
  · rfl
  · exact hf

theorem finishTick_congr (c : Bool) (htime : s.SameTime s') (hstay : f s' = f s)
    (hstart : ∀ b, f (s'.startFrame b) = f (s.startFrame b)) :
    andThen (finishTick s' c) f = andThen (finishTick s c) f := by
  rw [finishTick, finishTick, startRefresh, startRefresh, htime.cfg, htime.hour, htime.min]
  split
  · split
    · exact hstart _
    · rfl
  · exact hstay

/-- An input event and a step at rest read none of the three bytes: an observation `f` that does not
tell them apart where they stay does not tell them apart afterwards. -/
theorem step_withBytes (he : s.edge = none) (hrest : s.envPoint ≠ .quiet ∨ s.seq = .wait)
    (hreset : ∀ u : State, u.sr = s.sr → u.q = s.q →
      f (u.withBytes x y z).initialise = f u.initialise)
    (hstart : ∀ (u : State) b, u.sr = s.sr → u.q = s.q →
      f ((u.withBytes x y z).startFrame b) = f (u.startFrame b))
    (hstay : ∀ u : State, u.sr = s.sr → u.q = s.q → u.txb = s.txb →
      f (u.withBytes x y z) = f u) :
    andThen (step (s.withBytes x y z)) f = andThen (step s) f := by
  have hpoint : (s.withBytes x y z).popEvent = s.popEvent.withBytes x y z := rfl
  rw [step_of_no_edge s he, step_of_no_edge (s.withBytes x y z) he, hpoint]
  show andThen (exec (s.envPoint.instr s.seq s.pend) _) f = _
  cases hv : s.envPoint with
  | reset => exact execReset_congr rfl (hreset s.popEvent rfl rfl)
  | resetAndPulse => exact execReset_congr rfl (hreset s.popEvent rfl rfl)
  | pulse => exact execPulse_congr rfl (hstay { s.popEvent with pend := true } rfl rfl rfl)
  | quiet =>
    have hq : s.seq = .wait := hrest.resolve_left (fun h => h hv)
    rw [hq]
    cases hp : s.pend with
    | false =>
      show andThen (execWait _) f = andThen (execWait _) f
      rw [execWait_selected (s := s.popEvent.withBytes x y z) hq hp,
        execWait_selected (s := s.popEvent) hq hp]
      exact hstay s.popEvent rfl rfl rfl
    | true =>
      have htick : tickStage (s.popEvent.withBytes x y z).takeInterrupt =
          ((tickStage s.popEvent.takeInterrupt).1.withBytes x y z,
            (tickStage s.popEvent.takeInterrupt).2) :=
        tickStage_withBytes (s := s.popEvent.takeInterrupt)
      show andThen (execTick _) f = andThen (execTick _) f
      rw [execTick_selected (s := s.popEvent.withBytes x y z) hq hp,
        execTick_selected (s := s.popEvent) hq hp, htick]
      exact finishTick_congr _ ⟨rfl, rfl, rfl, rfl, rfl⟩
        (hstay _ (tickStage_sr _) (tickStage_q _) (tickStage_txb _))
        (fun b => hstart _ b (tickStage_sr _) (tickStage_q _))

/-- A step of a frame does to everything else what it does whatever the shift register holds. -/
theorem State.frameStep_withoutDevice (h : s.seq ≠ .wait) :
    (s.withBytes x y s.txb).frameStep.withoutDevice = s.frameStep.withoutDevice := by
  have hdrive (L : Line) (v : Bool) :
      ((s.withBytes x y s.txb).drive L v).withoutDevice = (s.drive L v).withoutDevice := by
    cases L <;> cases v <;>
      simp only [State.drive_clock_low, State.drive_clock_high, State.drive_data,
        State.drive_latch_high, State.drive_latch_low, State.withoutDevice, State.withBytes]
  obtain ⟨L, v, q, hstep⟩ := State.frameStep_drives h
  rw [hstep s rfl rfl, hstep (s.withBytes x y s.txb) rfl rfl]
  exact congrArg (State.goTo q) (hdrive L v)

/-- Of registers that stay the same no change has to be explained. -/
theorem State.SameTime.no_change {P Q R S : Prop} (h : s.SameTime t) :
    (t.tick ≠ s.tick → P) ∧ (t.sec ≠ s.sec → Q) ∧ (t.min ≠ s.min → R) ∧ (t.hour ≠ s.hour → S) :=
  ⟨absurd h.tick, absurd h.sec, absurd h.min, absurd h.hour⟩

/-- A TICK is the only way out of WAIT, and starts the frame of the time it has just written
(rules R29, R171). -/
theorem leaves_wait (h : step s = .next t) (hq : s.seq = .wait) (ht : t.seq ≠ .wait) :
    nextInstr s = .ok .tick ∧ t.seq = .sh 0 .a ∧
      t.txb = encodeByte t.hour.toNat t.min.toNat ∧ t.wt = s.wt := by
  cases (stepped_of_step h).kind with
  | edge d edge x y next => subst next; exact absurd hq ht
  | reset edge instr build next => subst next; exact absurd rfl ht
  | latch edge p es next => subst next; exact absurd hq ht
  | frame edge seq next => exact absurd hq seq
  | tick edge instr seq next =>
    obtain ⟨-, rfl⟩ | ⟨-, -, rfl⟩ := finishTick_eq_next.mp next
    · exact absurd ((tickStage_seq s.popEvent.takeInterrupt).trans hq) ht
    · exact ⟨instr, rfl, rfl, tickStage_wt _⟩

end

/-- Settles O45: of all steps only the latch edges write the outputs, and they copy the shift
stages. -/
theorem outputsChangeOnlyAtTheLatchEdge : Obligations.OutputsChangeOnlyAtTheLatchEdge := by
  unfold Obligations.OutputsChangeOnlyAtTheLatchEdge
  intro s t h hne
  cases stepped_of_step h with
  | latchEdge edge next => subst next; exact ⟨rfl, .inl edge⟩
  | latchHigh edge instr event seq next =>
    rw [State.drive_latch_high] at next
    cases hl : s.latch with
    | true =>
      have hkept : t.q = s.q := by rw [next]; exact if_pos hl
      exact absurd hkept hne
    | false =>
      have hcopied : t.q = s.sr := by
        rw [next]
        exact if_neg (by rw [State.popEvent_latch, hl]; decide)
      exact ⟨hcopied, .inr ⟨edge, event, seq, rfl⟩⟩
  | clockEdge edge next
  | reset edge instr event build next
  | pulse edge instr event pend next
  | wait edge instr event seq pend next => subst next; exact absurd rfl hne
  | tick edge instr event seq pend next =>
    exact absurd (by rw [finishTick_frame next]; rfl) hne
  | clkLow i edge instr event seq next =>
    rw [State.drive_clock_low] at next; subst next; exact absurd rfl hne
  | dataSet i edge instr event seq next =>
    rw [State.drive_data] at next; subst next; exact absurd rfl hne
  | clkHigh i edge instr event seq next =>
    rw [State.drive_clock_high] at next; subst next; exact absurd rfl hne
  | latchLow edge instr event seq next =>
    rw [State.drive_latch_low] at next; subst next; exact absurd rfl hne

/-- Settles O46: each operation answers as it is listed, and a step performs an operation the
sequencer enables. -/
theorem eachOperationCompletesOrIsRefusedByName :
    Obligations.EachOperationCompletesOrIsRefusedByName := by
  unfold Obligations.EachOperationCompletesOrIsRefusedByName
  refine ⟨exec_answers, fun s => ?step⟩
  case step => simpa [Answers] using step_answers s

/-- Settles O51: neither refusal is among the answers of a step. -/
theorem everyStateSelectsAnEnabledOperation : Obligations.EveryStateSelectsAnEnabledOperation := by
  unfold Obligations.EveryStateSelectsAnEnabledOperation
  have never (s : State) {e : Refusal} (he : e ∉ [.pulseOverrun, .encodeDomain, .badConfig]) :
      step s ≠ .refused e := fun h => he (h ▸ step_answers s).mem_of_refused
  exact fun s => ⟨never s (by decide), never s (by decide)⟩

/-- Settles O52: the other kinds of step keep TXB, and keep the sequencer at WAIT. -/
theorem onlyATickStartsAFrame : Obligations.OnlyATickStartsAFrame := by
  unfold Obligations.OnlyATickStartsAFrame
  refine fun s t h => ⟨fun hne => ?txb, leaves_wait h⟩
  case txb =>
    cases (stepped_of_step h).kind with
    | edge d edge x y next => subst next; exact absurd rfl hne
    | reset edge instr build next => exact .inr instr
    | latch edge p es next => subst next; exact absurd rfl hne
    | tick edge instr seq next => exact .inl instr
    | frame edge seq next =>
      exact absurd (next ▸ State.frameStep_txb (s := s.popEvent) seq) hne

/-- Settles O53: only the cascade of a TICK writes the registers, each stage on the rollover of the
one before. -/
theorem laterStagesRunOnlyOnARollover : Obligations.LaterStagesRunOnlyOnARollover := by
  unfold Obligations.LaterStagesRunOnlyOnARollover
  intro s t h hreset
  cases (stepped_of_step h).kind with
  | edge d edge x y next => subst next; exact State.SameTime.no_change ⟨rfl, rfl, rfl, rfl, rfl⟩
  | reset edge instr build next => exact absurd instr hreset
  | latch edge p es next => subst next; exact State.SameTime.no_change ⟨rfl, rfl, rfl, rfl, rfl⟩
  | frame edge seq next => exact (next ▸ State.sameTime_frameStep seq : s.SameTime t).no_change
  | tick edge instr seq next =>
    obtain ⟨htick, hsec, hmin, hhour, -⟩ := sameTime_of_finishTick next
    rw [hsec, hmin, hhour]
    obtain ⟨csec, cmin, chour⟩ := tickStage_changes (s := s.popEvent.takeInterrupt)
    exact ⟨fun _ => instr, fun hne => ⟨instr, csec hne⟩, fun hne => ⟨instr, cmin hne⟩,
      fun hne => ⟨instr, chour hne⟩⟩

/-- Settles O54: a step makes the write of its operation and no other; RESET starts again. -/
theorem eachLineIsWrittenByItsOwnSteps : Obligations.EachLineIsWrittenByItsOwnSteps := by
  unfold Obligations.EachLineIsWrittenByItsOwnSteps
  intro s t i hi h
  have hwrote := (stepped_of_step h).wrote hi
  refine ⟨?reset, fun k hk => ?clkLow, fun k hk => ?dataSet, fun k hk => ?clkHigh, fun hk => ?high,
    fun hk => ?low, fun hr hbits hhigh hlow => ?nothing⟩
  case reset =>
    rintro rfl
    rw [step, hi] at h
    obtain ⟨-, rfl⟩ := execReset_eq_next.mp h
    exact ⟨rfl, rfl, rfl⟩
  case clkLow => subst hk; exact (hwrote Instr.noConfusion).single
  case dataSet => subst hk; exact (hwrote Instr.noConfusion).single
  case clkHigh => subst hk; exact (hwrote Instr.noConfusion).single
  case high => subst hk; exact (hwrote Instr.noConfusion).single
  case low => subst hk; exact (hwrote Instr.noConfusion).single
  case nothing =>
    have hnone : Instr.write s.txb i = none := by
      cases i with
      | clkLow k => exact absurd rfl (hbits k).1
      | dataSet k => exact absurd rfl (hbits k).2.1
      | clkHigh k => exact absurd rfl (hbits k).2.2
      | latchHigh => exact absurd rfl hhigh
      | latchLow => exact absurd rfl hlow
      | _ => rfl
    have hw := hwrote hr
    rw [hnone] at hw
    exact ⟨hw.levels, by simpa using hw.wt, by simpa [transitions] using hw.tt⟩

/-- Settles O55: operation by operation. -/
theorem noOperationWritesTheBuild : Obligations.NoOperationWritesTheBuild := by
  unfold Obligations.NoOperationWritesTheBuild
  intro i s t h
  obtain ⟨hcfg, hevents⟩ := exec_sameEnv h
  exact ⟨hcfg, hevents⟩

/-- Settles O56: a reaction writes the shift register alone, and no other step reads it. -/
theorem shiftRegisterNeverInfluencesTheBlock :
    Obligations.ShiftRegisterNeverInfluencesTheBlock := by
  unfold Obligations.ShiftRegisterNeverInfluencesTheBlock
  intro s x y
  show andThen (step (s.withBytes x y s.txb)) _ = _
  cases he : s.edge with
  | some d =>
    rw [step_of_edge s d he, step_of_edge (s.withBytes x y s.txb) d he]
    cases d <;> rfl
  | none =>
    by_cases hrest : s.envPoint ≠ .quiet ∨ s.seq = .wait
    · refine step_withBytes he hrest (fun _ _ _ => rfl) (fun _ _ _ _ => rfl)
        (fun u _ _ htxb => ?_)
      rw [← htxb]
      rfl
    · obtain ⟨hv, hq⟩ := not_or.mp hrest
      rw [step_of_frame he (not_not.mp hv) hq,
        step_of_frame (s := s.withBytes x y s.txb) he (not_not.mp hv) hq]
      exact congrArg _ (State.frameStep_withoutDevice (s := s.popEvent) hq)

/-- Settles O57: at rest no step reads TXB, and a frame started there carries the byte of the time,
which is the same. -/
theorem transmitByteIsNotReadAtRest : Obligations.TransmitByteIsNotReadAtRest := by
  unfold Obligations.TransmitByteIsNotReadAtRest
  intro s x hq
  have hsame : andThen (step { s with txb := x }) (fun t => .next { t with txb := 0 }) =
      andThen (step s) (fun t => .next { t with txb := 0 }) := by
    show andThen (step (s.withBytes s.sr s.q x)) _ = _
    cases he : s.edge with
    | some d =>
      rw [step_of_edge s d he, step_of_edge (s.withBytes s.sr s.q x) d he]
      cases d <;> rfl
    | none =>
      refine step_withBytes he (.inr hq) (fun u hsr hqs => ?_) (fun u b hsr hqs => ?_)
        (fun u hsr hqs _ => ?_)
      · rw [← hsr, ← hqs]; rfl
      · rw [← hsr, ← hqs]; rfl
      · rw [← hsr, ← hqs]; rfl
  refine ⟨hsame, fun t u ht hu hleft => ?carried⟩
  case carried =>
    rw [ht, hu] at hsame
    have hstates : ({ t with txb := 0 } : State) = { u with txb := 0 } :=
      Host.Outcome.next.inj hsame
    have hseq : t.seq = u.seq := (congrArg State.seq hstates :)
    have hhour : t.hour = u.hour := (congrArg State.hour hstates :)
    have hmin : t.min = u.min := (congrArg State.min hstates :)
    obtain ⟨-, -, htxb, -⟩ := leaves_wait (s := { s with txb := x }) ht hq hleft
    obtain ⟨-, -, huxb, -⟩ := leaves_wait hu hq (hseq ▸ hleft)
    rw [htxb, huxb, hhour, hmin]

end Sys2Proof.Machine

/-! The big step of a served pulse (42_shift_out.md section 3): the small steps are it, what it
leaves, and `n` of them one after the other. -/

namespace Sys2Proof.Machine

section
variable {s t u : State}

/-- The block steps that can follow a TICK: those of its frame, or WAITs. -/
theorem runSteps_finishFrame (hq : s.seq = .wait ∨ s.seq = .sh 0 .a) (hp : s.pend = false)
    (he : s.edge = none) (hv : s.events = []) : runSteps 26 s = finishFrame s := by
  obtain hq | hq := hq
  · rw [runSteps_quiet 26 ⟨hq, hp, he⟩ hv, finishFrame, if_pos hq]
  · rw [runSteps_frame hq he hv, finishFrame, if_neg (hq ▸ Seq.noConfusion)]

/-- A TICK where it is selected, and the steps that can follow it. -/
theorem runSteps_tick (hq : s.seq = .wait) (hp : s.pend = true) (he : s.edge = none)
    (hv : s.events = []) : runSteps 27 s = andThen (execTick s) finishFrame := by
  rw [runSteps_succ, step_of_no_event he hv, hq, hp]
  show andThen (execTick s) _ = _
  rw [execTick_selected hq hp]
  cases h : finishTick (tickStage s.takeInterrupt).1 (tickStage s.takeInterrupt).2 with
  | next t =>
    have hframe := finishTick_frame h
    have hseq := seq_of_finishTick h
    rw [tickStage_seq] at hseq
    rw [andThen_next, andThen_next]
    refine runSteps_finishFrame (hseq.imp_left fun h => h.trans hq) ?_ ?_ ?_
    · rw [hframe]; rfl
    · rw [hframe]; exact he
    · rw [hframe]; exact hv
  | fault e => rfl
  | refused e => rfl

/-- A pulse served from a quiet point in range (rule R177): the cascade, and the frame of the time
just reached where one is due. -/
theorem pulseThenRun_of_timeOk (hF : s.cfg.mainsHz ≤ 63) (hs : s.timeOk) (h : s.quiet) :
    pulseThenRun s = .next
      (if s.cfg.refreshPolicy = .everyTick ∨
          (s.tick.toNat + 1 = s.cfg.mainsHz ∧ s.sec.toNat + 1 = 60)
        then (tickStage s).1.afterFrame
          (encodeByte (tickStage s).1.hour.toNat (tickStage s).1.min.toNat)
        else (tickStage s).1) := by
  obtain ⟨hq, hp, he⟩ := h
  have hserved : ({ s with pend := true } : State).takeInterrupt = s := by
    rw [State.takeInterrupt, ← hp]
  rw [pulseThenRun, execPulse_eq_next.mpr ⟨hp, rfl⟩, andThen_next,
    execTick_of_timeOk (s := { s with pend := true }) hF hs hq rfl, hserved, andThen_next]
  split
  · exact (if_neg Seq.noConfusion).trans (execShiftOut_eq (.inr ⟨rfl, rfl⟩))
  · exact if_pos ((tickStage_seq s).trans hq)

theorem length_frameEvents (b : Byte) : (frameEvents b).length = 26 := rfl

/-- Served to the end, a pulse leaves the block quiet with the registers of the cascade, and 26
writes where a frame was due. -/
theorem pulseThenRun_completes (hF : s.cfg.mainsHz ≤ 63) (hs : s.timeOk) (h : s.quiet) :
    ∃ t, pulseThenRun s = .next t ∧ t.quiet ∧ (tickStage s).1.SameTime t ∧
      t.wt.length = s.wt.length +
        26 * (if s.cfg.refreshPolicy = .everyTick ∨ (tickStage s).2 = true then 1 else 0) := by
  obtain ⟨hq, hp, he⟩ := h
  refine ⟨_, pulseThenRun_of_timeOk hF hs ⟨hq, hp, he⟩, ?_⟩
  simp only [tickStage_changed]
  split
  · exact ⟨⟨rfl, (tickStage_pend s).trans hp, (tickStage_edge s).trans he⟩,
      ⟨rfl, rfl, rfl, rfl, rfl⟩, by simp [State.afterFrame, length_frameEvents]⟩
  · exact ⟨⟨(tickStage_seq s).trans hq, (tickStage_pend s).trans hp, (tickStage_edge s).trans he⟩,
      ⟨rfl, rfl, rfl, rfl, rfl⟩, by simp⟩

/-- The cascade speaks of the time registers only. -/
theorem Cascade.of_sameTime {c : Bool} (h : Cascade s t c) (htu : t.SameTime u) :
    Cascade s u c := by
  obtain ⟨utick, usec, umin, uhour, -⟩ := htu
  cases h with
  | tick more tick sec min hour =>
    exact .tick more (utick ▸ tick) (usec ▸ sec) (umin ▸ min) (uhour ▸ hour)
  | sec rolled more tick sec min hour =>
    exact .sec rolled more (utick ▸ tick) (usec ▸ sec) (umin ▸ min) (uhour ▸ hour)
  | min rolled rolledSec more tick sec min hour =>
    exact .min rolled rolledSec more (utick ▸ tick) (usec ▸ sec) (umin ▸ min) (uhour ▸ hour)
  | hour rolled rolledSec rolledMin tick sec min hour =>
    exact .hour rolled rolledSec rolledMin (utick ▸ tick) (usec ▸ sec) (umin ▸ min) (uhour ▸ hour)

/-- `n` served pulses, by induction: the closed form, and a frame for each one due. -/
theorem pulsesThenRun_completes (n : Nat) (hl : s.cfg.legal) (hs : s.timeOk) (h : s.quiet) :
    ∃ t, pulsesThenRun n s = .next t ∧ t.quiet ∧ s.TimeAfter n t ∧
      t.wt.length = s.wt.length +
        26 * (if s.cfg.refreshPolicy = .everyTick then n else s.secCarry n) := by
  induction n generalizing s with
  | zero =>
    have hnone : s.secCarry 0 = 0 := State.secCarry_zero hs
    exact ⟨s, rfl, h, State.timeAfter_zero hs, by simp [hnone]⟩
  | succ n ih =>
    obtain ⟨u, hrun, hquiet, htime, hwt⟩ := pulseThenRun_completes hl.mainsHz_le hs h
    have hcfg : u.cfg = s.cfg := htime.cfg.trans (tickStage_cfg s)
    obtain ⟨t, hrest, hend, hafter, hwrites⟩ := ih (s := u) (hcfg ▸ hl)
      (htime.timeOk (tickStage_timeOk s hl.mainsHz_le hs)) hquiet
    obtain ⟨hclosed, hcount⟩ :=
      ((cascade_tickStage hl.mainsHz_le hs).of_sameTime htime).timeAfter_succ hcfg hs hafter
    refine ⟨t, by rw [pulsesThenRun, hrun, andThen_next, hrest], hend, hclosed, ?_⟩
    rw [hwrites, hwt, hcfg, hcount]
    by_cases hp : s.cfg.refreshPolicy = .everyTick
    · simp only [hp, true_or, if_true]; omega
    · simp only [hp, false_or, if_false]; omega

end

/-- Settles O58: the pulse is latched, and 27 steps serve it. -/
theorem smallStepsAreTheBigStep : Obligations.SmallStepsAreTheBigStep := by
  unfold Obligations.SmallStepsAreTheBigStep
  intro s ⟨hq, hp, he⟩ hv
  have hpoint : s.envPoint = .pulse := by rw [State.envPoint, hv]; rfl
  have hstep : step s = .next { s with pend := true, events := [] } :=
    (step_of_pulse he hpoint hp).trans (by rw [State.popEvent, hv]; rfl)
  have hpulse : execPulse { s with events := [] } = .next { s with pend := true, events := [] } :=
    execPulse_eq_next.mpr ⟨hp, rfl⟩
  rw [runSteps_succ, hstep, andThen_next, pulseThenRun, hpulse, andThen_next]
  exact runSteps_tick hq rfl he rfl

/-- Settles O59: the registers are those of the cascade, the frame that of `State.afterFrame`. -/
theorem servedPulseSendsTheFrameOfItsTime : Obligations.ServedPulseSendsTheFrameOfItsTime := by
  unfold Obligations.ServedPulseSendsTheFrameOfItsTime
  intro s hl hs h hlatch
  obtain ⟨t, hrun, hquiet, htime, -⟩ := pulseThenRun_completes hl.mainsHz_le hs h
  have hcascade := tickStage_frame_of_timeOk hl.mainsHz_le hs
  refine ⟨t, hrun, hquiet, ?registers, ?frame⟩
  case registers =>
    obtain ⟨ttick, tsec, tmin, thour, -⟩ := htime
    rw [exec_tickInc, ttick, tsec, tmin, thour]
    exact congrArg _ hcascade
  case frame =>
    have ht := Host.Outcome.next.inj (hrun.symm.trans (pulseThenRun_of_timeOk hl.mainsHz_le hs h))
    subst ht
    split
    · refine ⟨rfl, congrArg (· ++ _) (tickStage_wt s), rfl, if_neg ?_⟩
      rw [tickStage_latch, hlatch]
      exact Bool.false_ne_true
    · exact hcascade

/-- Settles O60, by induction on the number of pulses. -/
theorem pulsesKeepTheTime : Obligations.PulsesKeepTheTime := by
  unfold Obligations.PulsesKeepTheTime
  intro n s hl hs h
  obtain ⟨t, hrun, hquiet, ⟨htick, hsec, hmin, hhour⟩, hwt⟩ := pulsesThenRun_completes n hl hs h
  exact ⟨t, hrun, hquiet, htick, hsec, hmin, hhour, hwt⟩

end Sys2Proof.Machine
